-- ==== Sys2Proof/Word.lean ====
section
/-! DEFINITION. The widths of the block's values: a byte of the register space and the data lines (R100, R162),
a register offset (R100), a SCSI ID (R35, R38), a bus phase (R160), the transfer counter (R40) and the nine control
lines (R160). Everything wider than a plain abbreviation stands in Machine/. -/

namespace Sys2Proof

/-- A byte: a register access, a FIFO entry, the data lines (R100, R33, R200). -/
abbrev Byte := BitVec 8
/-- A register offset, 0x0 to 0xF (R100). -/
abbrev Offset := BitVec 4
/-- A SCSI ID, 0 to 7 (R35, R38). -/
abbrev BusId := BitVec 3
/-- A bus phase, MSG ++ CD ++ IO (R160). -/
abbrev PhaseCode := BitVec 3
/-- A command code, the command byte without its D bit (R150). -/
abbrev CmdCode := BitVec 7
/-- The transfer counter and its load value (R40). -/
abbrev Count := BitVec 16
/-- The nine control lines (R160). -/
abbrev Lines := BitVec 9

end Sys2Proof
end

