-- ==== Sys2Proof/Config.lean ====
section
/-! DEFINITION. What an implementation fixes (R6): the variant, the selection-timeout cause, whether RESETBUS
drives RST, the timer durations; the two depths the source fixes; and the free values (`draw` of R8). The
parameters are carried in State.params, so that a statement about every state is a statement about every
choice of them (assumption 2). -/

namespace Sys2Proof.Config

/-- `P_VARIANT` (R2). -/
inductive Variant
  | ncr5390
  | ncr53c90a
  | ncr53c94
  deriving DecidableEq, Repr

/-- `P_SEL_TIMEOUT_CAUSE` in {DIS, FC} (R6, R256, 93 section 2). -/
inductive SelTimeoutCause
  | dis
  | fc
  deriving DecidableEq, Repr

/-- The parameters of R6. Durations are in clock periods (R596); no rule's effect on any other state depends
on them (R212). -/
structure Params where
  variant : Variant
  selTimeoutCause : SelTimeoutCause
  resetBusDrivesRst : Bool
  /-- `P_DELAY_ARB`, scaled. -/
  delayArb : Nat
  /-- `P_DELAY_SEL`, scaled. -/
  delaySel : Nat
  /-- `P_DELAY_DEST`, raw. -/
  delayDest : Nat
  /-- `P_DELAY_REL`, scaled. -/
  delayRel : Nat
  /-- `P_DELAY_DESKEW`, raw. -/
  delayDeskew : Nat
  /-- The factor of `P_DELAY_SELTO = 8192 * select_timeout`, scaled. -/
  delaySelto : Nat
  /-- `P_DELAY_ABORT`, scaled. -/
  delayAbort : Nat
  deriving DecidableEq, Repr

/-- The defaults of R6 and R596. DESIGN CHOICE (assumption 2): the variant is left open by R6; NCR53C90A is the
one 95_test_vectors.md takes unless stated. -/
def defaults : Params :=
  { variant := .ncr53c90a, selTimeoutCause := .dis, resetBusDrivesRst := false
    delayArb := 11, delaySel := 6, delayDest := 4, delayRel := 2, delayDeskew := 2
    delaySelto := 8192, delayAbort := 1000 }

/-- `FIFO_DEPTH` (R6). -/
abbrev fifoDepth : Nat := 16

/-- The free values: `draw` of R8, "a free value, chosen by no law". No body, so no proof can see one. The first
argument is the width, the second the index of the draw (State.draws). Assumptions 6 and 7. -/
opaque draw (width index : Nat) : BitVec width

end Sys2Proof.Config
end

