-- ==== Sys2Proof/Syntax.lean ====
section
/-! DEFINITION. The instructions: one constructor per row of spec/opcode_table.json. The block runs no program
(R3): its instructions are the command bytes a host writes at offset 0x3 and the register and DMA-port accesses.
`Cmd` names the 29 command codes (R152); `Access` is what a host or DMA host presents at a port, in the table's
five formats CMD8, REG_RD, REG_WR, DMA_RD and DMA_WR (assumption 4). -/

namespace Sys2Proof

/-- The commands of R152, by the mnemonic of the table. -/
inductive Cmd
  | nop | flush | reset | resetbus | cmd04
  | xfer | iccs | msgacc | pad | setatn | resetatn
  | sendmsg | sendstatus | senddata | discseq | termseq | tccs | disconnect
  | recvmsg | recvcmd | recvdata | recvcmdseq
  | reselect | select | selatn | selatnstop | ensel | dissel | selatn3
  deriving DecidableEq, Repr

/-- One host or DMA-host access, as the table's formats lay it out. `cmd v` and `regWrite 0x3 v` are the same
physical access, written by the table in two formats (R156: a command is written by its mnemonic or as
`wr CMD, byte`). -/
inductive Access
  /-- CMD8: the command byte `v`, written at offset 0x3. -/
  | cmd (v : Byte)
  /-- REG_RD: a read of a register offset. -/
  | regRead (off : Offset)
  /-- REG_WR: a write of a byte at a register offset. -/
  | regWrite (off : Offset) (v : Byte)
  /-- DMA_RD: a read of one byte at the DMA port. -/
  | dmaRead
  /-- DMA_WR: a write of one byte at the DMA port. -/
  | dmaWrite (v : Byte)
  deriving DecidableEq, Repr

/-- The instructions. A command carries its D bit (R150); a register or DMA-port write carries its byte. -/
inductive Instr
  -- group 0, every mode
  | nop (d : Bool)
  | flush (d : Bool)
  | reset (d : Bool)
  | resetbus (d : Bool)
  | cmd04 (d : Bool)
  -- group 1, mode Initiator
  | xfer (d : Bool)
  | iccs (d : Bool)
  | msgacc (d : Bool)
  | pad (d : Bool)
  | setatn (d : Bool)
  | resetatn (d : Bool)
  -- group 2, mode Target
  | sendmsg (d : Bool)
  | sendstatus (d : Bool)
  | senddata (d : Bool)
  | discseq (d : Bool)
  | termseq (d : Bool)
  | tccs (d : Bool)
  | disconnect (d : Bool)
  | recvmsg (d : Bool)
  | recvcmd (d : Bool)
  | recvdata (d : Bool)
  | recvcmdseq (d : Bool)
  -- group 4, mode Disconnected
  | reselect (d : Bool)
  | select (d : Bool)
  | selatn (d : Bool)
  | selatnstop (d : Bool)
  | ensel (d : Bool)
  | dissel (d : Bool)
  | selatn3 (d : Bool)
  -- register reads
  | rdTclo
  | rdTchi
  | rdFifo
  | rdCmd
  | rdStat
  | rdIstat
  | rdSeq
  | rdFflags
  | rdConfig
  | rdConfig2
  | rdConfig3
  -- register writes
  | wrTclo (v : Byte)
  | wrTchi (v : Byte)
  | wrFifo (v : Byte)
  | wrCmd (v : Byte)
  | wrDest (v : Byte)
  | wrSelto (v : Byte)
  | wrSyncper (v : Byte)
  | wrSyncoff (v : Byte)
  | wrConfig (v : Byte)
  | wrCcf (v : Byte)
  | wrTest (v : Byte)
  | wrConfig2 (v : Byte)
  | wrConfig3 (v : Byte)
  | wrFalign (v : Byte)
  -- DMA port
  | dmard
  | dmawr (v : Byte)
  deriving DecidableEq, Repr

end Sys2Proof
end

