-- ==== Sys2Proof/WellFormed.lean ====
section
/-! DEFINITION. Well-formedness of an instruction for a variant: the "variants" columns of the command table (R152)
and of the register map (R170). Every operand value is legal (R155, R470 to R494), so this is the only check.
An instruction that is not well formed for the variant still runs: its command byte is illegal (R305), its offset
unmapped (R101). -/

namespace Sys2Proof

/-- Does the variant have this row? CMD04 and SELATN3 exist on NCR53C90A and NCR53C94 (R152); offset 0xb on those
two, offsets 0xc and 0xf on NCR53C94 (R170). -/
def Instr.wellFormed (var : Config.Variant) : Instr → Bool
  | .cmd04 _ => var != .ncr5390
  | .selatn3 _ => var != .ncr5390
  | .rdConfig2 => var != .ncr5390
  | .wrConfig2 _ => var != .ncr5390
  | .rdConfig3 => var == .ncr53c94
  | .wrConfig3 _ => var == .ncr53c94
  | .wrFalign _ => var == .ncr53c94
  | .nop _ => true
  | .flush _ => true
  | .reset _ => true
  | .resetbus _ => true
  | .xfer _ => true
  | .iccs _ => true
  | .msgacc _ => true
  | .pad _ => true
  | .setatn _ => true
  | .resetatn _ => true
  | .sendmsg _ => true
  | .sendstatus _ => true
  | .senddata _ => true
  | .discseq _ => true
  | .termseq _ => true
  | .tccs _ => true
  | .disconnect _ => true
  | .recvmsg _ => true
  | .recvcmd _ => true
  | .recvdata _ => true
  | .recvcmdseq _ => true
  | .reselect _ => true
  | .select _ => true
  | .selatn _ => true
  | .selatnstop _ => true
  | .ensel _ => true
  | .dissel _ => true
  | .rdTclo => true
  | .rdTchi => true
  | .rdFifo => true
  | .rdCmd => true
  | .rdStat => true
  | .rdIstat => true
  | .rdSeq => true
  | .rdFflags => true
  | .rdConfig => true
  | .wrTclo _ => true
  | .wrTchi _ => true
  | .wrFifo _ => true
  | .wrCmd _ => true
  | .wrDest _ => true
  | .wrSelto _ => true
  | .wrSyncper _ => true
  | .wrSyncoff _ => true
  | .wrConfig _ => true
  | .wrCcf _ => true
  | .wrTest _ => true
  | .dmard => true
  | .dmawr _ => true

end Sys2Proof
end

