-- ==== Sys2Proof/Decode.lean ====
section
/-! DEFINITION. Decoding and encoding. The command table of R152 stands once, in `Cmd.code`; decoding a code is a
search of that table, so a correction is a change of one line. `decode` is total on accesses and rejects by name;
`encode` is written from the same tables. `decodeTableWord` is the host's entry (assumption 4). -/

namespace Sys2Proof

/-- Why an access is no row of the table. The step still gives each its effect from the spec. -/
inductive Reject
  /-- A command byte whose code R152 does not list: illegal in every mode (R154), so writing it raises ILL (R305). -/
  | notACommand (v : Byte)
  /-- A read of a write-only or absent offset (R101, R495). -/
  | unmappedRead (off : Offset)
  /-- A write of an absent offset (R101, R495). -/
  | unmappedWrite (off : Offset) (v : Byte)
  deriving DecidableEq, Repr

/-- The command codes of R152. -/
def Cmd.code : Cmd → CmdCode
  | .nop => 0x00#7
  | .flush => 0x01#7
  | .reset => 0x02#7
  | .resetbus => 0x03#7
  | .cmd04 => 0x04#7
  | .xfer => 0x10#7
  | .iccs => 0x11#7
  | .msgacc => 0x12#7
  | .pad => 0x18#7
  | .setatn => 0x1a#7
  | .resetatn => 0x1b#7
  | .sendmsg => 0x20#7
  | .sendstatus => 0x21#7
  | .senddata => 0x22#7
  | .discseq => 0x23#7
  | .termseq => 0x24#7
  | .tccs => 0x25#7
  | .disconnect => 0x27#7
  | .recvmsg => 0x28#7
  | .recvcmd => 0x29#7
  | .recvdata => 0x2a#7
  | .recvcmdseq => 0x2b#7
  | .reselect => 0x40#7
  | .select => 0x41#7
  | .selatn => 0x42#7
  | .selatnstop => 0x43#7
  | .ensel => 0x44#7
  | .dissel => 0x45#7
  | .selatn3 => 0x46#7

/-- Every command, in the table's order. -/
def allCmds : List Cmd :=
  [.nop, .flush, .reset, .resetbus, .cmd04,
   .xfer, .iccs, .msgacc, .pad, .setatn, .resetatn,
   .sendmsg, .sendstatus, .senddata, .discseq, .termseq, .tccs, .disconnect,
   .recvmsg, .recvcmd, .recvdata, .recvcmdseq,
   .reselect, .select, .selatn, .selatnstop, .ensel, .dissel, .selatn3]

/-- The command a code stands for, if R152 lists it. -/
def decodeCmd (c : CmdCode) : Option Cmd := allCmds.find? fun k => k.code == c

/-- The command code `c = cmd[6:0]` of a command byte (R150). -/
def cmdCode (v : Byte) : CmdCode := v.setWidth 7

/-- The D bit `cmd[7]` of a command byte (R150). -/
def cmdDma (v : Byte) : Bool := v.msb

/-- The byte of a command with its D bit (R150). -/
def Cmd.byte (k : Cmd) (d : Bool) : Byte := BitVec.ofBool d ++ k.code

/-- The instruction of a command with its D bit. -/
def Cmd.instr (k : Cmd) (d : Bool) : Instr :=
  match k with
  | .nop => .nop d
  | .flush => .flush d
  | .reset => .reset d
  | .resetbus => .resetbus d
  | .cmd04 => .cmd04 d
  | .xfer => .xfer d
  | .iccs => .iccs d
  | .msgacc => .msgacc d
  | .pad => .pad d
  | .setatn => .setatn d
  | .resetatn => .resetatn d
  | .sendmsg => .sendmsg d
  | .sendstatus => .sendstatus d
  | .senddata => .senddata d
  | .discseq => .discseq d
  | .termseq => .termseq d
  | .tccs => .tccs d
  | .disconnect => .disconnect d
  | .recvmsg => .recvmsg d
  | .recvcmd => .recvcmd d
  | .recvdata => .recvdata d
  | .recvcmdseq => .recvcmdseq d
  | .reselect => .reselect d
  | .select => .select d
  | .selatn => .selatn d
  | .selatnstop => .selatnstop d
  | .ensel => .ensel d
  | .dissel => .dissel d
  | .selatn3 => .selatn3 d

/-- The read column of the register map (R170). -/
def decodeRead (off : Offset) : Except Reject Instr :=
  match off.toNat with
  | 0x0 => .ok .rdTclo
  | 0x1 => .ok .rdTchi
  | 0x2 => .ok .rdFifo
  | 0x3 => .ok .rdCmd
  | 0x4 => .ok .rdStat
  | 0x5 => .ok .rdIstat
  | 0x6 => .ok .rdSeq
  | 0x7 => .ok .rdFflags
  | 0x8 => .ok .rdConfig
  | 0xb => .ok .rdConfig2
  | 0xc => .ok .rdConfig3
  | _ => .error (.unmappedRead off)

/-- The write column of the register map (R170). -/
def decodeWrite (off : Offset) (v : Byte) : Except Reject Instr :=
  match off.toNat with
  | 0x0 => .ok (.wrTclo v)
  | 0x1 => .ok (.wrTchi v)
  | 0x2 => .ok (.wrFifo v)
  | 0x3 => .ok (.wrCmd v)
  | 0x4 => .ok (.wrDest v)
  | 0x5 => .ok (.wrSelto v)
  | 0x6 => .ok (.wrSyncper v)
  | 0x7 => .ok (.wrSyncoff v)
  | 0x8 => .ok (.wrConfig v)
  | 0x9 => .ok (.wrCcf v)
  | 0xa => .ok (.wrTest v)
  | 0xb => .ok (.wrConfig2 v)
  | 0xc => .ok (.wrConfig3 v)
  | 0xf => .ok (.wrFalign v)
  | _ => .error (.unmappedWrite off v)

/-- The instruction an access stands for, or why it is none. -/
def decode : Access → Except Reject Instr
  | .cmd v =>
    match decodeCmd (cmdCode v) with
    | some k => .ok (k.instr (cmdDma v))
    | none => .error (.notACommand v)
  | .regRead off => decodeRead off
  | .regWrite off v => decodeWrite off v
  | .dmaRead => .ok .dmard
  | .dmaWrite v => .ok (.dmawr v)

/-- The access that stands for an instruction (R152, R170, R102). -/
def encode : Instr → Access
  | .nop d => .cmd (Cmd.nop.byte d)
  | .flush d => .cmd (Cmd.flush.byte d)
  | .reset d => .cmd (Cmd.reset.byte d)
  | .resetbus d => .cmd (Cmd.resetbus.byte d)
  | .cmd04 d => .cmd (Cmd.cmd04.byte d)
  | .xfer d => .cmd (Cmd.xfer.byte d)
  | .iccs d => .cmd (Cmd.iccs.byte d)
  | .msgacc d => .cmd (Cmd.msgacc.byte d)
  | .pad d => .cmd (Cmd.pad.byte d)
  | .setatn d => .cmd (Cmd.setatn.byte d)
  | .resetatn d => .cmd (Cmd.resetatn.byte d)
  | .sendmsg d => .cmd (Cmd.sendmsg.byte d)
  | .sendstatus d => .cmd (Cmd.sendstatus.byte d)
  | .senddata d => .cmd (Cmd.senddata.byte d)
  | .discseq d => .cmd (Cmd.discseq.byte d)
  | .termseq d => .cmd (Cmd.termseq.byte d)
  | .tccs d => .cmd (Cmd.tccs.byte d)
  | .disconnect d => .cmd (Cmd.disconnect.byte d)
  | .recvmsg d => .cmd (Cmd.recvmsg.byte d)
  | .recvcmd d => .cmd (Cmd.recvcmd.byte d)
  | .recvdata d => .cmd (Cmd.recvdata.byte d)
  | .recvcmdseq d => .cmd (Cmd.recvcmdseq.byte d)
  | .reselect d => .cmd (Cmd.reselect.byte d)
  | .select d => .cmd (Cmd.select.byte d)
  | .selatn d => .cmd (Cmd.selatn.byte d)
  | .selatnstop d => .cmd (Cmd.selatnstop.byte d)
  | .ensel d => .cmd (Cmd.ensel.byte d)
  | .dissel d => .cmd (Cmd.dissel.byte d)
  | .selatn3 d => .cmd (Cmd.selatn3.byte d)
  | .rdTclo => .regRead 0x0#4
  | .rdTchi => .regRead 0x1#4
  | .rdFifo => .regRead 0x2#4
  | .rdCmd => .regRead 0x3#4
  | .rdStat => .regRead 0x4#4
  | .rdIstat => .regRead 0x5#4
  | .rdSeq => .regRead 0x6#4
  | .rdFflags => .regRead 0x7#4
  | .rdConfig => .regRead 0x8#4
  | .rdConfig2 => .regRead 0xb#4
  | .rdConfig3 => .regRead 0xc#4
  | .wrTclo v => .regWrite 0x0#4 v
  | .wrTchi v => .regWrite 0x1#4 v
  | .wrFifo v => .regWrite 0x2#4 v
  | .wrCmd v => .regWrite 0x3#4 v
  | .wrDest v => .regWrite 0x4#4 v
  | .wrSelto v => .regWrite 0x5#4 v
  | .wrSyncper v => .regWrite 0x6#4 v
  | .wrSyncoff v => .regWrite 0x7#4 v
  | .wrConfig v => .regWrite 0x8#4 v
  | .wrCcf v => .regWrite 0x9#4 v
  | .wrTest v => .regWrite 0xa#4 v
  | .wrConfig2 v => .regWrite 0xb#4 v
  | .wrConfig3 v => .regWrite 0xc#4 v
  | .wrFalign v => .regWrite 0xf#4 v
  | .dmard => .dmaRead
  | .dmawr v => .dmaWrite v

/-- The access that a word of the opcode table is laid out as. The table's words do not say their format, and the
words of several formats collide; DESIGN CHOICE (assumption 4): no bits is the DMA port, up to four bits a register
read, eight bits a command byte if R152 lists its code and otherwise the register access of that offset, and more
bits a register write, its offset in the first byte and its data in the second. -/
def tableAccess (nbits w : Nat) : Access :=
  if nbits = 0 then .dmaRead
  else if nbits ≤ 4 then .regRead (BitVec.ofNat 4 w)
  else if 8 < nbits then .regWrite (BitVec.ofNat 4 w) (BitVec.ofNat 8 (w / 256))
  else if (decodeCmd (cmdCode (BitVec.ofNat 8 w))).isSome then .cmd (BitVec.ofNat 8 w)
  else if 16 ≤ w then .cmd (BitVec.ofNat 8 w)
  else if (decodeRead (BitVec.ofNat 4 w)).isOk then .regRead (BitVec.ofNat 4 w)
  else .regWrite (BitVec.ofNat 4 w) 0#8

/-- The host's entry: the instruction the decoder reads from a word numbered as the table numbers it. -/
def decodeTableWord (nbits w : Nat) : Option Instr :=
  match decode (tableAccess nbits w) with
  | .ok i => some i
  | .error _ => none

end Sys2Proof
end

