-- ==== Sys2Proof/Machine/State.lean ====
section
/-! DEFINITION. The state of one device instance (10_state.md), the bus as its environment drives it (R201, R204),
the events still to come (R11, R130) and what the latest event put out; and `State.reset`, the device at power-on
(R53, R570, R576). Plain data only. -/

namespace Sys2Proof.Machine

/-- The bus role (R44). -/
inductive Mode
  | disconnected
  | initiator
  | target
  deriving DecidableEq, Repr

/-- The coarse states of R232, in its order. -/
inductive Coarse
  | idle
  | discSelArbitrationInit
  | discSelArbitration
  | discSelAtnWaitReq
  | discSelAtnSendByte
  | discSelWaitReq
  | discSelSendByte
  | initXfr
  | initXfrSendByte
  | initXfrRecvByteAck
  | initXfrRecvByteNack
  | initXfrWaitReq
  | initXfrFunctionComplete
  | initXfrBusComplete
  | initCptRecvByteAck
  | initCptRecvWaitReq
  | initCptRecvByteNack
  | initMsgWaitReq
  | initXfrSendPadWaitReq
  | initXfrSendPad
  | initXfrRecvPadWaitReq
  | initXfrRecvPad
  deriving DecidableEq, Repr

/-- The sub-states (micro-steps) of R233. -/
inductive Sub
  | arbComplete
  | arbAssertSel
  | arbSetDest
  | arbReleaseBusy
  | arbTimeoutBusy
  | arbTimeoutAbort
  | arbDeskewWait
  | sendWaitSettle
  | sendWaitReq0
  | recvWaitReq1
  | recvWaitSettle
  | recvWaitReq0
  deriving DecidableEq, Repr

/-- The direction of the DMA port (R47): `off` is None, `inward` (In) is bus to host, `outward` (Out) host to bus. -/
inductive DmaDir
  | off
  | inward
  | outward
  deriving DecidableEq, Repr

/-- Why `Step` was invoked (R230). -/
inductive Reason
  | timeout
  | signal
  deriving DecidableEq, Repr

/-- The fault kinds of R540. A raise leaves the kind in `State.fault` with every change the event made before it
(R541); from then on every step and every `exec` answers the outcome `fault` with that kind, because no agent acts
on the device again. SAFE: nothing can be proved about what a faulted device does later. -/
inductive Fault
  /-- Raised by ARB_COMPLETE (R251) when the highest ID on the data lines is not the own ID. Safe. -/
  | arbitrationLost
  /-- Raised by the start of CMD04, RESELECT, SELATN3 and every target command (R348, R366, R370, R440 to R450). Safe. -/
  | unimplementedCommand
  /-- Raised by a send that finds the FIFO empty (R260) and, in name only, by a dispatch without a handler (R237):
  the dispatch is total and its tail calls end within the bound (assumption 14), so R237 never fires. Safe. -/
  | badState
  /-- Raised by a DMA-port access while DRQ is low or against the direction (R110, R111). Safe. -/
  | dmaWithoutRequest
  deriving DecidableEq, Repr

/-- Refusals. No meaning refuses: every instruction has the effect the spec gives it. -/
inductive Refusal
  /-- For an instruction with no meaning yet, by its mnemonic: no arm of exec answers it. Safe. -/
  | notModelled (mnemonic : String)
  deriving DecidableEq, Repr

/-- What an event puts out to the owning system: the edges of IRQ and DRQ (R531, R535) and the RST pulse of
RESETBUS (R346). -/
inductive Notice
  | irq (level : Bool)
  | drq (level : Bool)
  | rst (level : Bool)
  deriving DecidableEq, Repr

/-- An event of one of the agents of R11: a host or DMA-host access, a change of the other devices' drive of the
bus (R204), the expiry of the timer (R211). -/
inductive Event
  | access (a : Access)
  | bus (ctrl : Lines) (data : Byte)
  | timer
  deriving DecidableEq, Repr

/-- The state (R30 to R52), the environment's drive, and the model's own fields. -/
structure State where
  /-- The implementation parameters (R6), fixed: no step changes them. -/
  params : Config.Params
  /-- `command[0]`, the current command byte (R31). -/
  command0 : Byte
  /-- `command[1]`, the chained next command byte (R31). -/
  command1 : Byte
  /-- `cmd_count` (R31). -/
  cmdCount : Fin 3
  /-- `dma_command` (R32). -/
  dmaCommand : Bool
  /-- `fifo`, head first (R33). -/
  fifo : List Byte
  /-- `config` (R34). -/
  config : Byte
  /-- `own_id` (R35). -/
  ownId : BusId
  /-- `test_mode` (R36). -/
  testMode : Bool
  /-- `config2` (R37). -/
  config2 : Byte
  /-- `config3` (R37). -/
  config3 : Byte
  /-- `fifo_align` (R37). -/
  fifoAlign : Byte
  /-- `test_reg` (R37). -/
  testReg : Byte
  /-- `dest_id` (R38). -/
  destId : BusId
  /-- `select_timeout` (R39). -/
  selectTimeout : Byte
  /-- `clock_conv` (R39). -/
  clockConv : BitVec 3
  /-- `sync_period` (R39). -/
  syncPeriod : BitVec 5
  /-- `sync_offset` (R39). -/
  syncOffset : BitVec 4
  /-- `tcount`, the load value (R40). -/
  tcount : Count
  /-- `tcounter`, the live counter (R40). -/
  tcounter : Count
  /-- `status.GE` (R41). -/
  ge : Bool
  /-- `status.PE` (R41). -/
  pe : Bool
  /-- `status.TC` (R41). -/
  tc : Bool
  /-- `istatus` (R42). -/
  istatus : Byte
  /-- `seq` (R43). -/
  seq : BitVec 3
  /-- `mode` (R44). -/
  mode : Mode
  /-- The coarse part of `state` (R45). -/
  coarse : Coarse
  /-- The sub-state part of `state` (R45). -/
  sub : Option Sub
  /-- `xfr_phase` (R46). -/
  xfrPhase : PhaseCode
  /-- `dma_dir` (R47). -/
  dmaDir : DmaDir
  /-- `command_length` (R48). -/
  commandLength : Nat
  /-- `irq`, the last value driven (R49). -/
  irq : Bool
  /-- `drq`, the last value driven (R49). -/
  drq : Bool
  /-- The timer: none when disarmed, else the clock periods it was armed with (R50, R210). -/
  timer : Option Nat
  /-- `ctrl_drive` (R51), laid out as R160. -/
  ctrlDrive : Lines
  /-- `data_drive` (R51). -/
  dataDrive : Byte
  /-- `fault` (R52). -/
  fault : Option Fault
  /-- The OR of every other device's control drive (R201, R204). -/
  envCtrl : Lines
  /-- The OR of every other device's data drive (R201, R204). -/
  envData : Byte
  /-- The model's own: the byte the last read access returned (assumption 8). -/
  readData : Byte
  /-- The model's own: what the latest event put out (assumption 9). -/
  notices : List Notice
  /-- The model's own: how many free values have been drawn (assumption 6). -/
  draws : Nat
  /-- The model's own: the events still to come, oldest first (assumption 3). -/
  events : List Event
  deriving DecidableEq, Repr

/-- The device at power-on (R53 hard reset, R570, R576), with nothing placed in its event list and an idle bus.
The fields the spec leaves drawn hold 0 (DESIGN CHOICE, assumption 5). -/
def State.reset : State :=
  { params := Config.defaults
    command0 := 0x00#8, command1 := 0x00#8, cmdCount := 0, dmaCommand := false
    fifo := []
    config := 0x00#8, ownId := 0#3, testMode := false
    config2 := 0x00#8, config3 := 0x00#8, fifoAlign := 0x00#8, testReg := 0x00#8
    destId := 0#3, selectTimeout := 0x00#8, clockConv := 2#3, syncPeriod := 5#5, syncOffset := 0#4
    tcount := 0x0000#16, tcounter := 0x0000#16
    ge := false, pe := false, tc := false
    istatus := 0x00#8, seq := 0#3
    mode := .disconnected, coarse := .idle, sub := none
    xfrPhase := 0#3, dmaDir := .off, commandLength := 0
    irq := false, drq := false, timer := none
    ctrlDrive := 0#9, dataDrive := 0x00#8, fault := none
    envCtrl := 0#9, envData := 0x00#8
    readData := 0x00#8, notices := [], draws := 0, events := [] }

end Sys2Proof.Machine
end

