-- ==== Sys2Proof/Machine/Operands.lean ====
section
/-! DEFINITION. What a rule reads: the bus lines and their bits (R160, R201), phases (R161), SCSI IDs as data bits
(R162), the current command (R230), the scaled delays (R212), and the bytes a register access presents or stores
(R170, R470 to R494). -/

namespace Sys2Proof.Machine

/-! ### Control lines (R160) -/

def lineIo : Lines := 0x001#9
def lineCd : Lines := 0x002#9
def lineMsg : Lines := 0x004#9
def lineBsy : Lines := 0x008#9
def lineSel : Lines := 0x010#9
def lineReq : Lines := 0x020#9
def lineAck : Lines := 0x040#9
def lineAtn : Lines := 0x080#9
def lineRst : Lines := 0x100#9
def allLines : Lines := 0x1ff#9

/-- Is the line asserted in `ctrl` (R9)? -/
def asserted (ctrl line : Lines) : Bool := ctrl &&& line != 0#9

/-- `BusCtrl()` (R201). -/
def busCtrl (s : State) : Lines := s.ctrlDrive ||| s.envCtrl

/-- `BusData()` (R201). -/
def busData (s : State) : Byte := s.dataDrive ||| s.envData

/-! ### Phases (R161) -/

/-- `phase = ctrl[2:0]` (R160). -/
def phaseOf (ctrl : Lines) : PhaseCode := ctrl.setWidth 3

def phDataOut : PhaseCode := 0#3
def phDataIn : PhaseCode := 1#3
def phCommand : PhaseCode := 2#3
def phStatus : PhaseCode := 3#3
def phMessageOut : PhaseCode := 6#3
def phMessageIn : PhaseCode := 7#3

/-- `IO(p) = p[0]`: the byte moves toward the initiator (R161). -/
def inbound (p : PhaseCode) : Bool := p.getLsbD 0

/-! ### SCSI IDs on the data lines (R162) -/

/-- The data bit of a device ID. -/
def idBit (n : BusId) : Byte := 1#8 <<< n.toNat

/-- The highest-numbered bit set in the data lines, the arbitration winner (R251). -/
def highestId (data : Byte) : Option BusId :=
  [7#3, 6#3, 5#3, 4#3, 3#3, 2#3, 1#3, 0#3].find? fun n => data.getLsbD n.toNat

/-! ### The current command (R230) -/

/-- Is `k` the command in slot 0, `c = command[0][6:0]`? -/
def currentIs (s : State) (k : Cmd) : Bool := cmdCode s.command0 == k.code

/-- `atn` of 41 section 2: the selections that assert ATN. -/
def withAtn (s : State) : Bool := currentIs s .selatn || currentIs s .selatnstop

/-! ### Delays (R212) -/

/-- The clock conversion factor: 0 means 8. -/
def clockFactor (s : State) : Nat := if s.clockConv = 0#3 then 8 else s.clockConv.toNat

/-- `scaled n`. -/
def scaled (s : State) (n : Nat) : Nat := n * clockFactor s

/-! ### Register bytes -/

/-- The low byte of the counter, at offset 0x0 (R125). -/
def lowByte (n : Count) : Byte := n.setWidth 8

/-- The high byte of the counter, at offset 0x1 (R125). -/
def highByte (n : Count) : Byte := n.extractLsb' 8 8

/-- `n` with its low byte replaced (R471). -/
def withLowByte (n : Count) (v : Byte) : Count := highByte n ++ v

/-- `n` with its high byte replaced (R471). -/
def withHighByte (n : Count) (v : Byte) : Count := v ++ lowByte n

/-- The status byte, composed at the time of the read (R164, R478). -/
def statusByte (s : State) : Byte :=
  (if s.params.variant ≠ .ncr5390 ∧ s.irq = true then 0x80#8 else 0x00#8)
    ||| (if s.ge then 0x40#8 else 0x00#8)
    ||| (if s.pe then 0x20#8 else 0x00#8)
    ||| (if s.tc then 0x10#8 else 0x00#8)
    ||| (phaseOf (busCtrl s)).setWidth 8

/-- The FIFO-flags byte: the number of bytes in the FIFO (R486). -/
def fifoFlags (s : State) : Byte := BitVec.ofNat 8 s.fifo.length

/-- Does the variant map offset 0xb (R170)? -/
def hasConfig2 (s : State) : Bool := s.params.variant != .ncr5390

/-- Does the variant map offsets 0xc and 0xf (R170)? -/
def hasConfig3 (s : State) : Bool := s.params.variant == .ncr53c94

end Sys2Proof.Machine
end

