-- ==== Sys2Proof/Machine/Flags.lean ====
section
/-! DEFINITION. The derived outputs and the flags: IRQ (R531), DRQ (R535), the interrupt causes (R530, R166), the
transfer-counter decrement with terminal count (R120). -/

namespace Sys2Proof.Machine

/-! ### Interrupt causes (R166) -/

def causeSr : Byte := 0x80#8
def causeIll : Byte := 0x40#8
def causeDis : Byte := 0x20#8
def causeBs : Byte := 0x10#8
def causeFc : Byte := 0x08#8

/-- `P_SEL_TIMEOUT_CAUSE` as a cause bit (R6, R256). -/
def selTimeoutCause (s : State) : Byte :=
  match s.params.selTimeoutCause with
  | .dis => causeDis
  | .fc => causeFc

/-- What IRQ follows: `istatus != 0` (R531). -/
def irqLevel (s : State) : Bool := s.istatus != 0x00#8

/-- `UpdateIrq()` (R531): the owner is notified on a change only. -/
def updateIrq (s : State) : State :=
  { s with
    irq := irqLevel s
    notices := s.notices ++ (if irqLevel s = s.irq then [] else [.irq (irqLevel s)]) }

/-- What DRQ follows (R535). -/
def drqLevel (s : State) : Bool :=
  match s.dmaDir with
  | .off => false
  | .inward => decide (0 < s.fifo.length)
  | .outward => !s.tc && decide (s.fifo.length < Config.fifoDepth)

/-- `UpdateDrq()` (R535): the owner is notified on a change only. -/
def updateDrq (s : State) : State :=
  { s with
    drq := drqLevel s
    notices := s.notices ++ (if drqLevel s = s.drq then [] else [.drq (drqLevel s)]) }

/-- `SetCause(bit)` (R530): taking an interrupt cause. Causes accumulate (R545). -/
def setCause (cause : Byte) (s : State) : State :=
  updateIrq { s with istatus := s.istatus ||| cause }

/-- `DecrementTcounter()` (R120). -/
def decrementTcounter (s : State) : State :=
  if s.dmaCommand then
    updateDrq { s with tcounter := s.tcounter - 1#16, tc := s.tc || s.tcounter - 1#16 == 0#16 }
  else s

end Sys2Proof.Machine
end

