-- ==== Sys2Proof/Machine/Ops.lean ====
section
/-! DEFINITION. The shared operations: an event and its end by a fault (R10, R541), free values (R8), the drives of
the bus (R202), the timer (R210), the FIFO (R104 to R107), the resets (R570, R572, R573), the disconnect (R235) and
the two completing terminal nodes (R310, R311). -/

namespace Sys2Proof.Machine

/-! ### Events and faults -/

/-- One atomic event (R10) on a device that is not stuck; no agent acts on a device whose fault is set (R52, R541).
Each event starts with nothing put out (assumption 9). -/
def event (f : State → State) (s : State) : Host.Outcome State Fault Refusal :=
  match s.fault with
  | some k => .fault k
  | none => .next (f { s with notices := [] })

/-- `raise Fault(kind)` (R541). Every use of it is the last thing its event does, so nothing after it runs. -/
def raise (k : Fault) (s : State) : State := { s with fault := some k }

/-- `return b`: the byte a read access gives its caller. An event that a raise ended returns nothing (R541). -/
def answer (b : Byte) (s : State) : State :=
  match s.fault with
  | none => { s with readData := b }
  | some _ => s

/-- A read that returns a draw and changes no state (R101): a free value. -/
def answerDraw (s : State) : State :=
  answer (Config.draw 8 s.draws) { s with draws := s.draws + 1 }

/-! ### Bus drives and the timer -/

/-- `DriveCtrl(v, m)` (R202). -/
def driveCtrl (v m : Lines) (s : State) : State :=
  { s with ctrlDrive := (s.ctrlDrive &&& ~~~m) ||| (v &&& m) }

/-- `DriveData(v)` (R202). -/
def driveData (v : Byte) (s : State) : State := { s with dataDrive := v }

/-- `Delay(n)` (R210): arm the timer, replacing any armed one. -/
def delay (n : Nat) (s : State) : State := { s with timer := some n }

/-! ### The FIFO -/

/-- `FifoPush(b)` (R104): a byte beyond the capacity is dropped. -/
def fifoPush (b : Byte) (s : State) : State :=
  updateDrq { s with fifo := if s.fifo.length < Config.fifoDepth then s.fifo ++ [b] else s.fifo }

/-- The byte `FifoPop()` returns (R105): the head, or a free value when the FIFO is empty. -/
def fifoHead (s : State) : Byte :=
  match s.fifo with
  | b :: _ => b
  | [] => Config.draw 8 s.draws

/-- The state `FifoPop()` leaves (R105). -/
def fifoPop (s : State) : State :=
  updateDrq { s with fifo := s.fifo.tail, draws := if s.fifo.isEmpty then s.draws + 1 else s.draws }

/-- `FifoFlush()` (R107). -/
def fifoFlush (s : State) : State := updateDrq { s with fifo := [] }

/-! ### Resets -/

/-- `SoftReset()` (R572). -/
def softReset (s : State) : State :=
  updateIrq (updateDrq
    { driveData 0x00#8 (driveCtrl 0#9 allLines s) with
      timer := none
      testMode := false
      coarse := .idle, sub := none
      cmdCount := 0, dmaCommand := false, commandLength := 0
      mode := .disconnected
      dmaDir := .off })

/-- The fields `HardReset()` leaves drawn (R570): free values, one after another. -/
def drawFields (s : State) : State :=
  { s with
    fifoAlign := Config.draw 8 s.draws
    testReg := Config.draw 8 (s.draws + 1)
    destId := Config.draw 3 (s.draws + 2)
    selectTimeout := Config.draw 8 (s.draws + 3)
    tcount := Config.draw 16 (s.draws + 4)
    tcounter := Config.draw 16 (s.draws + 5)
    xfrPhase := Config.draw 3 (s.draws + 6)
    draws := s.draws + 7 }

/-- `HardReset()` (R570). -/
def hardReset (s : State) : State :=
  softReset (drawFields
    { fifoFlush s with
      config := 0x00#8, ownId := 0#3, config2 := 0x00#8, config3 := 0x00#8
      clockConv := 2#3, syncPeriod := 5#5, syncOffset := 0#4
      ge := false, pe := false, tc := false
      istatus := 0x00#8, seq := 0#3 })

/-- `BusReset()`, the response to RST on the bus (R573): `config[6]` keeps SR from being set. -/
def busReset (s : State) : State :=
  if s.config.getLsbD 6 then softReset s else setCause causeSr (softReset s)

/-! ### Terminal nodes -/

/-- `ResetDisconnect()` (R235). -/
def resetDisconnect (s : State) : State :=
  updateDrq
    { driveData 0x00#8 (driveCtrl 0#9 allLines s) with
      cmdCount := 0, mode := .disconnected, dmaDir := .off }

/-- `state <- (IDLE, none)`. -/
def goIdle (s : State) : State := { s with coarse := .idle, sub := none }

/-- The completing terminal nodes: idle, the cause, DRQ withdrawn. -/
def complete (cause : Byte) (s : State) : State :=
  updateDrq { setCause cause (goIdle s) with dmaDir := .off }

/-- `FunctionComplete()` (R310). -/
def functionComplete (s : State) : State := complete causeFc s

/-- `BusComplete()` (R311). -/
def busComplete (s : State) : State := complete causeBs s

end Sys2Proof.Machine
end

