-- ==== Sys2Proof/Machine/Arbitration.lean ====
section
/-! DEFINITION. One micro-step of the sequencer and how it goes on (R231), and the arbitration and selection
micro-steps (R250 to R257). A handler either acts or changes nothing; the second half of its result says whether it
tail-calls `Step`, and with which reason. -/

namespace Sys2Proof.Machine

/-- A micro-step's result: the state, and the reason of the tail call to `Step` if there is one (R231). -/
abbrev Micro := State × Option Reason

/-- The handler is done: `return`, or the end of its rule. -/
def halt (s : State) : Micro := (s, none)

/-- The handler tail-calls `Step(r)`. -/
def stepAgain (r : Reason) (s : State) : Micro := (s, some r)

/-- A handler that waits for elapsed time acts only on a Timeout (R231). -/
def onTimeout (r : Reason) (act : State → Micro) (s : State) : Micro :=
  match r with
  | .timeout => act s
  | .signal => halt s

/-- `sub <- u`. -/
def goSub (u : Sub) (s : State) : State := { s with sub := some u }

/-- `sub <- none`: the next invocation dispatches on the coarse state (R45). -/
def endSub (s : State) : State := { s with sub := none }

/-- `coarse <- c`. -/
def goCoarse (c : Coarse) (s : State) : State := { s with coarse := c }

/-- `Arbitrate()` (R250). -/
def arbitrate (s : State) : State :=
  delay (scaled s s.params.delayArb)
    (driveCtrl lineBsy lineBsy (driveData (idBit s.ownId) (goSub .arbComplete s)))

/-- `ARB_COMPLETE` on a Timeout (R251): the highest ID on the data lines must be the own one, as `own_id` is now (R489,
R593; assumption 18). -/
def arbComplete (data : Byte) (s : State) : Micro :=
  if highestId data = some s.ownId then
    halt (delay (scaled s s.params.delaySel) (driveCtrl lineSel lineSel (goSub .arbAssertSel s)))
  else
    halt (raise .arbitrationLost (driveCtrl 0#9 allLines (driveData 0x00#8 s)))

/-- `ARB_ASSERT_SEL` on a Timeout (R252). -/
def arbAssertSel (s : State) : Micro :=
  halt (delay s.params.delayDest
    (goSub .arbSetDest (driveData (idBit s.ownId ||| idBit s.destId) s)))

/-- `ARB_SET_DEST` on a Timeout (R253). -/
def arbSetDest (s : State) : Micro :=
  halt (delay (scaled s s.params.delayRel)
    (driveCtrl (if withAtn s then lineAtn else 0#9) (lineAtn ||| lineBsy) (goSub .arbReleaseBusy s)))

/-- The target answered: wait the deskew delay (R254, R255, R256). -/
def arbDeskew (s : State) : Micro := halt (delay s.params.delayDeskew (goSub .arbDeskewWait s))

/-- `ARB_RELEASE_BUSY` on a Timeout (R254). -/
def arbReleaseBusy (ctrl : Lines) (s : State) : Micro :=
  if asserted ctrl lineBsy then arbDeskew s
  else
    halt (delay (scaled s (s.params.delaySelto * s.selectTimeout.toNat)) (goSub .arbTimeoutBusy s))

/-- `ARB_TIMEOUT_BUSY` (R255): the target's BSY or the selection timeout, whichever comes first. -/
def arbTimeoutBusy (r : Reason) (ctrl : Lines) (s : State) : Micro :=
  match r with
  | .timeout =>
    halt (delay (scaled s s.params.delayAbort) (goSub .arbTimeoutAbort (driveData 0x00#8 s)))
  | .signal => if asserted ctrl lineBsy then arbDeskew s else halt s

/-- `ARB_TIMEOUT_ABORT` on a Timeout (R256). -/
def arbTimeoutAbort (ctrl : Lines) (s : State) : Micro :=
  if asserted ctrl lineBsy then arbDeskew s
  else
    halt (resetDisconnect (setCause (selTimeoutCause s) (goIdle (driveCtrl 0#9 allLines s))))

/-- `ARB_DESKEW_WAIT` on a Timeout (R257): become Initiator and run the selection's coarse handler at once. -/
def arbDeskewWait (s : State) : Micro :=
  stepAgain .timeout
    (endSub { driveCtrl 0#9 lineSel (driveData 0x00#8 s) with mode := .initiator })

end Sys2Proof.Machine
end

