-- ==== Sys2Proof/Machine/Handshake.lean ====
section
/-! DEFINITION. The REQ/ACK handshake of one byte as initiator: `SendByte` and `RecvByte` and their micro-steps
(R260 to R266). The coarse state stays; when the handshake ends its handler runs. -/

namespace Sys2Proof.Machine

/-- `SendByte()` (R260): the FIFO's head, or 0x00 in Transfer Pad, with ACK; then the settle delay. -/
def sendByte (s : State) : Micro :=
  let s1 := goSub .sendWaitSettle s
  if s1.coarse = .initXfrSendPad then
    halt (delay s1.syncPeriod.toNat (driveCtrl lineAck lineAck (driveData 0x00#8 s1)))
  else if s1.fifo = [] then halt (raise .badState s1)
  else
    halt (delay s1.syncPeriod.toNat
      (driveCtrl lineAck lineAck (driveData (fifoHead s1) (fifoPop s1))))

/-- `SEND_WAIT_SETTLE` on a Timeout (R261). -/
def sendWaitSettle (s : State) : Micro := stepAgain .signal (goSub .sendWaitReq0 s)

/-- `SEND_WAIT_REQ_0` (R262): when the target drops REQ, release the data lines and ACK. -/
def sendWaitReq0 (ctrl : Lines) (s : State) : Micro :=
  if asserted ctrl lineReq then halt s
  else stepAgain .signal (driveCtrl 0#9 lineAck (driveData 0x00#8 (endSub s)))

/-- `RecvByte()` (R263). -/
def recvByte (s : State) : Micro := stepAgain .signal (goSub .recvWaitReq1 s)

/-- `RECV_WAIT_REQ_1` (R264). The phase of the REQ is not tested (assumption 26). -/
def recvWaitReq1 (ctrl : Lines) (s : State) : Micro :=
  if asserted ctrl lineReq then halt (delay s.syncPeriod.toNat (goSub .recvWaitSettle s))
  else halt s

/-- `RECV_WAIT_SETTLE` on a Timeout (R265): latch the data lines, except in Transfer Pad, and assert ACK. The byte is
`BusData()`, the OR of all drives; that the own one is 0 then, as R265 derives, fails after the pop of a running send
(assumption 22). A FIFO that the host filled by its register (R473) since the room was checked drops the byte (R104),
in XFER too, against the derived end of R401 (assumption 23). -/
def recvWaitSettle (data : Byte) (s : State) : Micro :=
  stepAgain .signal
    (goSub .recvWaitReq0 (driveCtrl lineAck lineAck
      (if s.coarse = .initXfrRecvPad then s else fifoPush data s)))

/-- `RECV_WAIT_REQ_0` (R266): ACK stays asserted; the coarse handler decides. -/
def recvWaitReq0 (ctrl : Lines) (s : State) : Micro :=
  if asserted ctrl lineReq then halt s else stepAgain .signal (endSub s)

end Sys2Proof.Machine
end

