-- ==== Sys2Proof/Machine/SelectionSteps.lean ====
section
/-! DEFINITION. The coarse states of a selection (R372 to R377). -/

namespace Sys2Proof.Machine

/-- `DISC_SEL_ARBITRATION_INIT` (R372): fix how many bytes the selection will send (those of a host that leaves the FIFO
register alone meanwhile: assumption 24). -/
def discSelArbitrationInit (s : State) : Micro :=
  if s.fifo = [] then halt s
  else
    stepAgain .signal
      (goCoarse .discSelArbitration
        { s with commandLength := s.fifo.length + (if s.dmaCommand then s.tcounter.toNat else 0) })

/-- `DISC_SEL_ARBITRATION` (R373). -/
def discSelArbitration (ctrl : Lines) (s : State) : Micro :=
  let s1 := goCoarse (if currentIs s .select then .discSelWaitReq else .discSelAtnWaitReq) s
  if asserted ctrl lineReq then stepAgain .signal s1 else halt s1

/-- `DISC_SEL_ATN_WAIT_REQ` (R374): the one message byte. -/
def discSelAtnWaitReq (ctrl : Lines) (s : State) : Micro :=
  if !asserted ctrl lineReq then halt s
  else if phaseOf ctrl ≠ phMessageOut then halt (functionComplete s)
  else if s.fifo = [] then halt s
  else
    sendByte (goCoarse .discSelAtnSendByte
      (if currentIs s .selatn then driveCtrl 0#9 lineAtn s else s))

/-- `DISC_SEL_ATN_SEND_BYTE` (R375). -/
def discSelAtnSendByte (s : State) : Micro :=
  let s1 := { s with commandLength := s.commandLength - 1 }
  if currentIs s .selatnstop then halt (functionComplete { s1 with seq := 1#3 })
  else halt (goCoarse .discSelWaitReq s1)

/-- The sequence step a selection ends with, by R376's pseudocode. R379's derived table differs after an
interrupt-status read meanwhile, which clears `seq` (assumption 24), and where Command was entered but the FIFO was
empty, so that no byte was sent and `seq` was never 3: then this is 2, not 3 (assumption 25). -/
def selectionEndSeq (s : State) : BitVec 3 :=
  if s.commandLength = 0 then 4#3 else if s.seq = 3#3 then 3#3 else 2#3

/-- `DISC_SEL_WAIT_REQ` (R376): the next command byte, or the end. The hold on an empty FIFO comes before `seq` is
written, as in the pseudocode (assumption 25). -/
def discSelWaitReq (ctrl : Lines) (s : State) : Micro :=
  if !asserted ctrl lineReq then halt s
  else if phaseOf ctrl ≠ phCommand ∨ s.commandLength = 0 then
    halt (functionComplete { s with seq := selectionEndSeq s })
  else if s.fifo = [] then halt s
  else
    sendByte (goCoarse .discSelSendByte
      { s with seq := if s.seq < 3#3 then 3#3 else s.seq })

/-- `DISC_SEL_SEND_BYTE` (R377). -/
def discSelSendByte (s : State) : Micro :=
  halt (goCoarse .discSelWaitReq
    { s with
      commandLength := s.commandLength - 1
      seq := if s.commandLength - 1 = 0 then 4#3 else s.seq })

end Sys2Proof.Machine
end

