-- ==== Sys2Proof/Machine/TransferSteps.lean ====
section
/-! DEFINITION. The coarse states of the initiator commands: Transfer Information (R392 to R400), Initiator Command
Complete (R411 to R413), Message Accepted (R416) and Transfer Pad (R419 to R423). -/

namespace Sys2Proof.Machine

/-- Is the byte about to be sent the last of a Message-Out transfer (R392, D47)? -/
def lastMessageOut (s : State) : Bool :=
  s.xfrPhase == phMessageOut && s.fifo.length == 1 && (!s.dmaCommand || s.tc)

/-- Is the byte about to be received the last of a Message-In transfer (R392, D25)? -/
def lastMessageIn (s : State) : Bool :=
  s.xfrPhase == phMessageIn && (!s.dmaCommand || s.tcounter == 1#16)

/-- `INIT_XFR` (R392): move one byte in the captured phase. As in the pseudocode, neither REQ (assumption 20) nor the
phase on the bus is tested: a transfer held here stays held, its DRQ as it was, when the target changes the phase,
against the words of R401, D26 and R522 (assumption 26). -/
def initXfr (s : State) : Micro :=
  if s.xfrPhase = phDataOut ∨ s.xfrPhase = phCommand ∨ s.xfrPhase = phMessageOut then
    if s.fifo = [] then halt s
    else
      sendByte (goCoarse .initXfrSendByte
        (if lastMessageOut s then driveCtrl 0#9 lineAtn s else s))
  else if s.xfrPhase = phDataIn ∨ s.xfrPhase = phStatus ∨ s.xfrPhase = phMessageIn then
    if s.fifo.length = Config.fifoDepth then halt s
    else
      recvByte (goCoarse
        (if lastMessageIn s then .initXfrRecvByteNack else .initXfrRecvByteAck) s)
  else halt (functionComplete s)

/-- `done` of R395: the count or the FIFO is exhausted. -/
def transferDone (s : State) : Bool :=
  (s.dmaCommand && s.tc && (s.dmaDir == .inward || s.fifo.isEmpty))
    || (!s.dmaCommand && !inbound s.xfrPhase && s.fifo.isEmpty)
    || (!s.dmaCommand && inbound s.xfrPhase)

/-- `INIT_XFR_WAIT_REQ` (R395). -/
def initXfrWaitReq (ctrl : Lines) (s : State) : Micro :=
  if !asserted ctrl lineReq then halt s
  else if transferDone s = true ∨ phaseOf ctrl ≠ s.xfrPhase then
    stepAgain .signal (goCoarse .initXfrBusComplete s)
  else stepAgain .signal (goCoarse .initXfr s)

/-- `INIT_XFR_SEND_BYTE` (R396). -/
def initXfrSendByte (s : State) : Micro := stepAgain .signal (goCoarse .initXfrWaitReq s)

/-- `INIT_XFR_RECV_BYTE_ACK` (R397). -/
def initXfrRecvByteAck (s : State) : Micro :=
  halt (driveCtrl 0#9 lineAck (goCoarse .initXfrWaitReq (decrementTcounter s)))

/-- `INIT_XFR_RECV_BYTE_NACK` (R398): ACK stays asserted. -/
def initXfrRecvByteNack (s : State) : Micro :=
  stepAgain .signal (goCoarse .initXfrFunctionComplete (decrementTcounter s))

/-- Bytes of a DMA-in transfer still wait for the host (R399, R400). -/
def drainPending (s : State) : Bool := s.dmaCommand && s.dmaDir == .inward && !s.fifo.isEmpty

/-- `INIT_XFR_FUNCTION_COMPLETE` (R399). -/
def initXfrFunctionComplete (s : State) : Micro :=
  if drainPending s then halt s else halt (functionComplete s)

/-- `INIT_XFR_BUS_COMPLETE` (R400). -/
def initXfrBusComplete (s : State) : Micro :=
  if drainPending s then halt s else halt (busComplete s)

/-- `INIT_CPT_RECV_BYTE_ACK` (R411): the status byte is in. -/
def initCptRecvByteAck (s : State) : Micro :=
  halt (goCoarse .initCptRecvWaitReq (driveCtrl 0#9 lineAck s))

/-- `INIT_CPT_RECV_WAIT_REQ` (R412): the message byte, or another phase. -/
def initCptRecvWaitReq (ctrl : Lines) (s : State) : Micro :=
  if !asserted ctrl lineReq then halt s
  else if phaseOf ctrl ≠ phMessageIn then halt (busComplete s)
  else recvByte (goCoarse .initCptRecvByteNack s)

/-- `INIT_CPT_RECV_BYTE_NACK` (R413). -/
def initCptRecvByteNack (s : State) : Micro := halt (functionComplete s)

/-- `INIT_MSG_WAIT_REQ` (R416). -/
def initMsgWaitReq (ctrl : Lines) (s : State) : Micro :=
  if !asserted ctrl lineReq && asserted ctrl lineBsy then halt s else halt (busComplete s)

/-- `INIT_XFR_SEND_PAD_WAIT_REQ` (R419). -/
def initXfrSendPadWaitReq (ctrl : Lines) (s : State) : Micro :=
  if !asserted ctrl lineReq then halt s
  else if phaseOf ctrl ≠ s.xfrPhase then halt (busComplete s)
  else sendByte (goCoarse .initXfrSendPad s)

/-- `INIT_XFR_SEND_PAD` (R420). -/
def initXfrSendPad (s : State) : Micro :=
  let s1 := decrementTcounter s
  if s1.tc then halt (functionComplete s1)
  else stepAgain .signal (goCoarse .initXfrSendPadWaitReq s1)

/-- `INIT_XFR_RECV_PAD_WAIT_REQ` (R422). -/
def initXfrRecvPadWaitReq (ctrl : Lines) (s : State) : Micro :=
  if !asserted ctrl lineReq then halt s
  else if phaseOf ctrl ≠ s.xfrPhase then halt (busComplete s)
  else recvByte (goCoarse .initXfrRecvPad s)

/-- `INIT_XFR_RECV_PAD` (R423): ACK is released after every pad byte. -/
def initXfrRecvPad (s : State) : Micro :=
  let s1 := driveCtrl 0#9 lineAck (decrementTcounter s)
  if s1.tc then halt (functionComplete s1)
  else stepAgain .signal (goCoarse .initXfrRecvPadWaitReq s1)

end Sys2Proof.Machine
end

