-- ==== Sys2Proof/Machine/Sequencer.lean ====
section
/-! DEFINITION. The sequencer: the disconnect check (R234), the dispatch on the sub-state or the coarse state (R230,
R232, R233, R236) and `Step` with its tail calls run to the end (R10, R231). -/

namespace Sys2Proof.Machine

/-- `DisconnectCheck(ctrl)` (R234). -/
def disconnectCheck (ctrl : Lines) (s : State) : State :=
  if s.mode = .initiator ∧ asserted ctrl lineBsy = false then
    resetDisconnect (setCause causeDis (goIdle s))
  else s

/-- The handler of a sub-state (R233). -/
def dispatchSub (u : Sub) (r : Reason) (ctrl : Lines) (data : Byte) (s : State) : Micro :=
  match u with
  | .arbComplete => onTimeout r (arbComplete data) s
  | .arbAssertSel => onTimeout r arbAssertSel s
  | .arbSetDest => onTimeout r arbSetDest s
  | .arbReleaseBusy => onTimeout r (arbReleaseBusy ctrl) s
  | .arbTimeoutBusy => arbTimeoutBusy r ctrl s
  | .arbTimeoutAbort => onTimeout r (arbTimeoutAbort ctrl) s
  | .arbDeskewWait => onTimeout r arbDeskewWait s
  | .sendWaitSettle => onTimeout r sendWaitSettle s
  | .sendWaitReq0 => sendWaitReq0 ctrl s
  | .recvWaitReq1 => recvWaitReq1 ctrl s
  | .recvWaitSettle => onTimeout r (recvWaitSettle data) s
  | .recvWaitReq0 => recvWaitReq0 ctrl s

/-- The handler of a coarse state (R232); IDLE does nothing (R236). -/
def dispatchCoarse (c : Coarse) (ctrl : Lines) (s : State) : Micro :=
  match c with
  | .idle => halt s
  | .discSelArbitrationInit => discSelArbitrationInit s
  | .discSelArbitration => discSelArbitration ctrl s
  | .discSelAtnWaitReq => discSelAtnWaitReq ctrl s
  | .discSelAtnSendByte => discSelAtnSendByte s
  | .discSelWaitReq => discSelWaitReq ctrl s
  | .discSelSendByte => discSelSendByte s
  | .initXfr => initXfr s
  | .initXfrSendByte => initXfrSendByte s
  | .initXfrRecvByteAck => initXfrRecvByteAck s
  | .initXfrRecvByteNack => initXfrRecvByteNack s
  | .initXfrWaitReq => initXfrWaitReq ctrl s
  | .initXfrFunctionComplete => initXfrFunctionComplete s
  | .initXfrBusComplete => initXfrBusComplete s
  | .initCptRecvByteAck => initCptRecvByteAck s
  | .initCptRecvWaitReq => initCptRecvWaitReq ctrl s
  | .initCptRecvByteNack => initCptRecvByteNack s
  | .initMsgWaitReq => initMsgWaitReq ctrl s
  | .initXfrSendPadWaitReq => initXfrSendPadWaitReq ctrl s
  | .initXfrSendPad => initXfrSendPad s
  | .initXfrRecvPadWaitReq => initXfrRecvPadWaitReq ctrl s
  | .initXfrRecvPad => initXfrRecvPad s

/-- One invocation of `Step` up to its tail call: read the bus, check for a disconnect, dispatch (R230). -/
def stepOnce (r : Reason) (s : State) : Micro :=
  let s1 := disconnectCheck (busCtrl s) s
  match s1.sub with
  | some u => dispatchSub u r (busCtrl s) (busData s) s1
  | none => dispatchCoarse s1.coarse (busCtrl s) s1

/-- `Step` with at most `n` invocations in its chain. A chain that is cut off is a dispatch without a handler
(R237); `seqStep`'s bound is never reached (Obligations.TailCallsEndWithinSix, assumption 14). -/
def stepChain : Nat → Reason → State → State
  | 0, _, s => raise .badState s
  | n + 1, r, s =>
    match stepOnce r s with
    | (t, none) => t
    | (t, some r') => stepChain n r' t

/-- `Step(reason)` (R230): the whole chain is one atomic event (R10). No chain is longer than six invocations. -/
def seqStep (r : Reason) (s : State) : State := stepChain 6 r s

end Sys2Proof.Machine
end

