-- ==== Sys2Proof/Machine/CommandRules.lean ====
section
/-! DEFINITION. What each command does when it starts: the pseudocode of its rule in files 43 to 46. The validity
check and the DMA reload have already happened (R308). -/

namespace Sys2Proof.Machine

/-- A started command: the state, and whether `PopAndChain()` is the last step of its own rule (R321 b). -/
abbrev Started := State × Bool

/-- The command goes on, or ended with a cause, a reset or a fault. -/
def runs (s : State) : Started := (s, false)

/-- The command is over with no cause: it pops itself. -/
def popsItself (s : State) : Started := (s, true)

/-- `raise Fault(UnimplementedCommand)`. -/
def unimplemented (s : State) : Started := runs (raise .unimplementedCommand s)

/-! ### Group 0 (43) -/

/-- NOP (R340). -/
def startNop (s : State) : Started := popsItself s

/-- FLUSH (R342). -/
def startFlush (s : State) : Started := popsItself (fifoFlush s)

/-- RESET (R344). -/
def startReset (s : State) : Started := runs (hardReset s)

/-- RESETBUS (R346): a soft reset; where `P_RESET_BUS_DRIVES_RST` holds, then a pulse of RST, which the controller
does not notice itself (R205). What the other devices do with it is for later bus events (assumption 13). -/
def startResetbus (s : State) : Started :=
  let s1 := softReset s
  runs (if s1.params.resetBusDrivesRst then { s1 with notices := s1.notices ++ [.rst true, .rst false] }
    else s1)

/-- CMD04 (R348). -/
def startCmd04 (s : State) : Started := unimplemented s

/-! ### Group 1 (45) -/

/-- The DMA direction of a transfer (R390). -/
def transferDir (s : State) (p : PhaseCode) : DmaDir :=
  if !s.dmaCommand then .off else if inbound p then .inward else .outward

/-- XFER (R390). No rule disarms the timer here: one left armed by a command popped while it ran (assumption 15) can
still expire into this transfer (assumption 21). -/
def startXfer (s : State) : Started :=
  let p := phaseOf (busCtrl s)
  runs (seqStep .signal
    { updateDrq { s with xfrPhase := p, dmaDir := transferDir s p } with coarse := .initXfr, sub := none })

/-- ICCS (R410): `RecvByte()` on the coarse state INIT_CPT_RECV_BYTE_ACK. No rule releases the data lines here: a byte
driven by a send popped while it ran (assumption 15) is still driven, and latched with the target's (assumption 22). -/
def startIccs (s : State) : Started :=
  runs (seqStep .signal (goSub .recvWaitReq1 { s with coarse := .initCptRecvByteAck, sub := none }))

/-- MSGACC (R415). -/
def startMsgacc (s : State) : Started :=
  runs (seqStep .signal
    { driveCtrl 0#9 lineAck { s with seq := 0#3 } with coarse := .initMsgWaitReq, sub := none })

/-- PAD (R418). -/
def startPad (s : State) : Started :=
  let p := phaseOf (busCtrl s)
  runs (seqStep .signal
    { driveCtrl 0#9 lineAck (updateDrq { s with xfrPhase := p, dmaDir := .off }) with
      coarse := if inbound p then .initXfrRecvPadWaitReq else .initXfrSendPadWaitReq
      sub := none })

/-- SETATN (R430). -/
def startSetatn (s : State) : Started := popsItself (driveCtrl lineAtn lineAtn s)

/-- RESETATN (R432). -/
def startResetatn (s : State) : Started := popsItself (driveCtrl 0#9 lineAtn s)

/-! ### Group 2 (46): every one unimplemented -/

/-- SENDMSG (R440). -/
def startSendmsg (s : State) : Started := unimplemented s
/-- SENDSTATUS (R441). -/
def startSendstatus (s : State) : Started := unimplemented s
/-- SENDDATA (R442). -/
def startSenddata (s : State) : Started := unimplemented s
/-- DISCSEQ (R443). -/
def startDiscseq (s : State) : Started := unimplemented s
/-- TERMSEQ (R444). -/
def startTermseq (s : State) : Started := unimplemented s
/-- TCCS (R445). -/
def startTccs (s : State) : Started := unimplemented s
/-- DISCONNECT (R446). -/
def startDisconnect (s : State) : Started := unimplemented s
/-- RECVMSG (R447). -/
def startRecvmsg (s : State) : Started := unimplemented s
/-- RECVCMD (R448). -/
def startRecvcmd (s : State) : Started := unimplemented s
/-- RECVDATA (R449). -/
def startRecvdata (s : State) : Started := unimplemented s
/-- RECVCMDSEQ (R450). -/
def startRecvcmdseq (s : State) : Started := unimplemented s

/-! ### Group 4 (44) -/

/-- RESELECT (R366). -/
def startReselect (s : State) : Started := unimplemented s

/-- The start the three selections share (R360, R362, R364). -/
def beginSelection (s : State) : State :=
  arbitrate
    (updateDrq
      { s with
        seq := 0#3
        coarse := .discSelArbitrationInit, sub := none
        dmaDir := if s.dmaCommand then .outward else .off })

/-- SELECT (R360). -/
def startSelect (s : State) : Started := runs (beginSelection s)
/-- SELATN (R362). -/
def startSelatn (s : State) : Started := runs (beginSelection s)
/-- SELATNSTOP (R364). -/
def startSelatnstop (s : State) : Started := runs (beginSelection s)
/-- ENSEL (R368). -/
def startEnsel (s : State) : Started := popsItself s
/-- DISSEL (R369). -/
def startDissel (s : State) : Started := popsItself s
/-- SELATN3 (R370). -/
def startSelatn3 (s : State) : Started := unimplemented s

end Sys2Proof.Machine
end

