-- ==== Sys2Proof/Machine/Dispatcher.lean ====
section
/-! DEFINITION. The command dispatcher (42): validity (R153, R304), the DMA reload (R306), the start of a command
(R308), the pop that chains the next (R320), and the command-register write (R300 to R302). -/

namespace Sys2Proof.Machine

/-- `Valid(variant, mode, c)` (R153). -/
def commandValid (variant : Config.Variant) (mode : Mode) (c : CmdCode) : Bool :=
  let sub := (c.extractLsb' 0 4).toNat
  match (c.extractLsb' 4 3).toNat with
  | 0 => decide (sub ≤ if variant = .ncr5390 then 3 else 4)
  | 4 => decide (mode = .disconnected) && decide (sub ≤ if variant = .ncr5390 then 5 else 6)
  | 2 => decide (mode = .target) && decide (sub ≤ 11) && decide (sub ≠ 6)
  | 1 => decide (mode = .initiator) && [0, 1, 2, 8, 10, 11].contains sub
  | _ => false

/-- The DMA reload (R306). -/
def dmaReload (s : State) : State :=
  updateDrq
    (if cmdDma s.command0 then { s with dmaCommand := true, tcounter := s.tcount, tc := false }
    else { s with dmaCommand := false })

/-- The `case c of` of R308. -/
def commandRule (k : Cmd) (s : State) : Started :=
  match k with
  | .nop => startNop s
  | .flush => startFlush s
  | .reset => startReset s
  | .resetbus => startResetbus s
  | .cmd04 => startCmd04 s
  | .xfer => startXfer s
  | .iccs => startIccs s
  | .msgacc => startMsgacc s
  | .pad => startPad s
  | .setatn => startSetatn s
  | .resetatn => startResetatn s
  | .sendmsg => startSendmsg s
  | .sendstatus => startSendstatus s
  | .senddata => startSenddata s
  | .discseq => startDiscseq s
  | .termseq => startTermseq s
  | .tccs => startTccs s
  | .disconnect => startDisconnect s
  | .recvmsg => startRecvmsg s
  | .recvcmd => startRecvcmd s
  | .recvdata => startRecvdata s
  | .recvcmdseq => startRecvcmdseq s
  | .reselect => startReselect s
  | .select => startSelect s
  | .selatn => startSelatn s
  | .selatnstop => startSelatnstop s
  | .ensel => startEnsel s
  | .dissel => startDissel s
  | .selatn3 => startSelatn3 s

/-- `StartCommand()` (R308) on the byte in slot 0, with the validity check at its start (R304, R305). A valid code
always has a rule (Obligations.ValidCodesHaveACommand); the case without one stands for R237 (assumption 14). -/
def startCommand (s : State) : Started :=
  if commandValid s.params.variant s.mode (cmdCode s.command0) then
    match decodeCmd (cmdCode s.command0) with
    | some k => commandRule k (dmaReload s)
    | none => runs (raise .badState s)
  else runs (setCause causeIll s)

/-- `PopAndChain()` (R320) on a queue that holds one command or none: nothing is left to start. -/
def popLast (s : State) : State := { s with cmdCount := 0 }

/-- `StartCommand()` with one command in the queue; a command that ends with no cause pops itself (R321 b). -/
def startOnly (s : State) : State :=
  match startCommand s with
  | (t, true) => popLast t
  | (t, false) => t

/-- `PopAndChain()` (R320). The queue holds two commands at most, so a chained command is the last one. As R320 and
R480 say, nothing asks whether the command popped has completed, and neither the timer nor the drive is touched; what
that leaves of the derived R309, R267 and R265 is in assumptions 15, 21 and 22. -/
def popAndChain (s : State) : State :=
  if s.cmdCount = 2 then startOnly { s with cmdCount := 1, command0 := s.command1 }
  else popLast s

/-- Does the byte's code stand for RESET or RESETBUS (R301)? -/
def isResetByte (v : Byte) : Bool := cmdCode v == Cmd.reset.code || cmdCode v == Cmd.resetbus.code

/-- The queue that `CommandWrite(v)` finds: a reset byte empties it first (R301). -/
def commandQueue (v : Byte) (s : State) : State :=
  if isResetByte v then { s with cmdCount := 0 } else s

/-- `CommandWrite(v)` (R300): gross error on a full queue (R302), queued behind a pending command, or started. -/
def commandWrite (v : Byte) (s : State) : State :=
  let q := commandQueue v s
  if q.cmdCount = 2 then { q with ge := true }
  else if q.cmdCount = 1 then { q with command1 := v, cmdCount := 2 }
  else startOnly { q with command0 := v, cmdCount := 1 }

end Sys2Proof.Machine
end

