-- ==== Sys2Proof/Machine/Disconnected.lean ====
section
/-! DEFINITION. Group 4 commands (44): valid in mode Disconnected. The meaning of a command row is the host access the
table's note describes: its byte is written at offset 0x3 (R300), so queueing, gross error, validity, reload and the
command's own rule (Machine/CommandRules.lean) all belong to it (assumption 1). -/

namespace Sys2Proof.Machine

/-- RESELECT, 0x40 (R366, R300). -/
def execReselect (d : Bool) (s : State) : Host.Outcome State Fault Refusal :=
  event (commandWrite (Cmd.reselect.byte d)) s

/-- SELECT, 0x41 (R360, R300). -/
def execSelect (d : Bool) (s : State) : Host.Outcome State Fault Refusal :=
  event (commandWrite (Cmd.select.byte d)) s

/-- SELATN, 0x42 (R362, R300). -/
def execSelatn (d : Bool) (s : State) : Host.Outcome State Fault Refusal :=
  event (commandWrite (Cmd.selatn.byte d)) s

/-- SELATNSTOP, 0x43 (R364, R300). -/
def execSelatnstop (d : Bool) (s : State) : Host.Outcome State Fault Refusal :=
  event (commandWrite (Cmd.selatnstop.byte d)) s

/-- ENSEL, 0x44 (R368, R300). -/
def execEnsel (d : Bool) (s : State) : Host.Outcome State Fault Refusal :=
  event (commandWrite (Cmd.ensel.byte d)) s

/-- DISSEL, 0x45 (R369, R300). -/
def execDissel (d : Bool) (s : State) : Host.Outcome State Fault Refusal :=
  event (commandWrite (Cmd.dissel.byte d)) s

/-- SELATN3, 0x46 (R370, R300). -/
def execSelatn3 (d : Bool) (s : State) : Host.Outcome State Fault Refusal :=
  event (commandWrite (Cmd.selatn3.byte d)) s

end Sys2Proof.Machine
end

