-- ==== Sys2Proof/Machine/DmaPort.lean ====
section
/-! DEFINITION. The DMA data port (R102, R110, R111): gated by DRQ and its direction. -/

namespace Sys2Proof.Machine

/-- `DmaRead()` (R110): pop one byte and run the sequencer, which may be held on a full FIFO or a pending drain. -/
def dmaRead (s : State) : State :=
  if s.drq = true ∧ s.dmaDir = .inward then answer (fifoHead s) (seqStep .signal (fifoPop s))
  else raise .dmaWithoutRequest s

/-- `DmaWrite(v)` (R111): push, count, and run the sequencer. -/
def dmaWrite (v : Byte) (s : State) : State :=
  if s.drq = true ∧ s.dmaDir = .outward then seqStep .signal (decrementTcounter (fifoPush v s))
  else raise .dmaWithoutRequest s

/-- DMARD (R110). -/
def execDmard (s : State) : Host.Outcome State Fault Refusal := event dmaRead s

/-- DMAWR (R111). -/
def execDmawr (v : Byte) (s : State) : Host.Outcome State Fault Refusal := event (dmaWrite v) s

end Sys2Proof.Machine
end

