-- ==== Sys2Proof/Machine/Initiator.lean ====
section
/-! DEFINITION. Group 1 commands (45): valid in mode Initiator. The meaning of a command row is the host access the
table's note describes: its byte is written at offset 0x3 (R300), so queueing, gross error, validity, reload and the
command's own rule (Machine/CommandRules.lean) all belong to it (assumption 1). -/

namespace Sys2Proof.Machine

/-- XFER, 0x10 (R390, R300). -/
def execXfer (d : Bool) (s : State) : Host.Outcome State Fault Refusal :=
  event (commandWrite (Cmd.xfer.byte d)) s

/-- ICCS, 0x11 (R410, R300). -/
def execIccs (d : Bool) (s : State) : Host.Outcome State Fault Refusal :=
  event (commandWrite (Cmd.iccs.byte d)) s

/-- MSGACC, 0x12 (R415, R300). -/
def execMsgacc (d : Bool) (s : State) : Host.Outcome State Fault Refusal :=
  event (commandWrite (Cmd.msgacc.byte d)) s

/-- PAD, 0x18 (R418, R300). -/
def execPad (d : Bool) (s : State) : Host.Outcome State Fault Refusal :=
  event (commandWrite (Cmd.pad.byte d)) s

/-- SETATN, 0x1a (R430, R300). -/
def execSetatn (d : Bool) (s : State) : Host.Outcome State Fault Refusal :=
  event (commandWrite (Cmd.setatn.byte d)) s

/-- RESETATN, 0x1b (R432, R300). -/
def execResetatn (d : Bool) (s : State) : Host.Outcome State Fault Refusal :=
  event (commandWrite (Cmd.resetatn.byte d)) s

end Sys2Proof.Machine
end

