-- ==== Sys2Proof/Machine/Misc.lean ====
section
/-! DEFINITION. Group 0 commands (43): valid in every mode. The meaning of a command row is the host access the
table's note describes: its byte is written at offset 0x3 (R300), so queueing, gross error, validity, reload and the
command's own rule (Machine/CommandRules.lean) all belong to it (assumption 1). -/

namespace Sys2Proof.Machine

/-- NOP, 0x00 (R340, R300). -/
def execNop (d : Bool) (s : State) : Host.Outcome State Fault Refusal :=
  event (commandWrite (Cmd.nop.byte d)) s

/-- FLUSH, 0x01 (R342, R300). -/
def execFlush (d : Bool) (s : State) : Host.Outcome State Fault Refusal :=
  event (commandWrite (Cmd.flush.byte d)) s

/-- RESET, 0x02 (R344, R301). -/
def execReset (d : Bool) (s : State) : Host.Outcome State Fault Refusal :=
  event (commandWrite (Cmd.reset.byte d)) s

/-- RESETBUS, 0x03 (R346, R301). -/
def execResetbus (d : Bool) (s : State) : Host.Outcome State Fault Refusal :=
  event (commandWrite (Cmd.resetbus.byte d)) s

/-- CMD04, 0x04 (R348, R300). -/
def execCmd04 (d : Bool) (s : State) : Host.Outcome State Fault Refusal :=
  event (commandWrite (Cmd.cmd04.byte d)) s

end Sys2Proof.Machine
end

