-- ==== Sys2Proof/Machine/RegisterRead.lean ====
section
/-! DEFINITION. Register reads (47): the byte goes to `readData`. No read is illegal in any state or mode (R496). -/

namespace Sys2Proof.Machine

/-- RD_TCLO, offset 0x0 (R470): the live counter's low byte. -/
def execRdTclo (s : State) : Host.Outcome State Fault Refusal := event (fun t => answer (lowByte t.tcounter) t) s

/-- RD_TCHI, offset 0x1 (R470): the live counter's high byte. -/
def execRdTchi (s : State) : Host.Outcome State Fault Refusal := event (fun t => answer (highByte t.tcounter) t) s

/-- RD_FIFO, offset 0x2 (R472): the head is popped; the sequencer is not run. -/
def execRdFifo (s : State) : Host.Outcome State Fault Refusal := event (fun t => answer (fifoHead t) (fifoPop t)) s

/-- RD_CMD, offset 0x3 (R476): the byte in slot 0. -/
def execRdCmd (s : State) : Host.Outcome State Fault Refusal := event (fun t => answer t.command0 t) s

/-- RD_STAT, offset 0x4 (R478). -/
def execRdStat (s : State) : Host.Outcome State Fault Refusal := event (fun t => answer (statusByte t) t) s

/-- What the interrupt-status read clears (R480); TC is kept. -/
def istatusClear (s : State) : State :=
  updateIrq { s with istatus := 0x00#8, seq := 0#3, ge := false, pe := false }

/-- `IstatusRead()` without its answer (R480): clear, then pop and chain if a cause was present. -/
def istatusRead (s : State) : State :=
  if s.istatus = 0x00#8 then istatusClear s else popAndChain (istatusClear s)

/-- RD_ISTAT, offset 0x5 (R480): the return from interrupt (R547). -/
def execRdIstat (s : State) : Host.Outcome State Fault Refusal := event (fun t => answer t.istatus (istatusRead t)) s

/-- RD_SEQ, offset 0x6 (R484). -/
def execRdSeq (s : State) : Host.Outcome State Fault Refusal := event (fun t => answer (t.seq.setWidth 8) t) s

/-- RD_FFLAGS, offset 0x7 (R486). -/
def execRdFflags (s : State) : Host.Outcome State Fault Refusal := event (fun t => answer (fifoFlags t) t) s

/-- RD_CONFIG, offset 0x8 (R488). -/
def execRdConfig (s : State) : Host.Outcome State Fault Refusal := event (fun t => answer t.config t) s

/-- RD_CONFIG2, offset 0xb (R492): unmapped on NCR5390, where it answers a draw (R101). -/
def execRdConfig2 (s : State) : Host.Outcome State Fault Refusal :=
  event (fun t => if hasConfig2 t then answer t.config2 t else answerDraw t) s

/-- RD_CONFIG3, offset 0xc (R493): unmapped but on NCR53C94, where it answers a draw (R101). -/
def execRdConfig3 (s : State) : Host.Outcome State Fault Refusal :=
  event (fun t => if hasConfig3 t then answer t.config3 t else answerDraw t) s

end Sys2Proof.Machine
end

