-- ==== Sys2Proof/Machine/RegisterWrite.lean ====
section
/-! DEFINITION. Register writes (47). Bits a register does not hold are ignored. No write is illegal in any state or
mode (R496). -/

namespace Sys2Proof.Machine

/-- WR_TCLO, offset 0x0 (R471): the load value only. -/
def execWrTclo (v : Byte) (s : State) : Host.Outcome State Fault Refusal :=
  event (fun t => { t with tcount := withLowByte t.tcount v }) s

/-- WR_TCHI, offset 0x1 (R471): the load value only. -/
def execWrTchi (v : Byte) (s : State) : Host.Outcome State Fault Refusal :=
  event (fun t => { t with tcount := withHighByte t.tcount v }) s

/-- WR_FIFO, offset 0x2 (R473): pushed or dropped; the sequencer is not run. Allowed at any time, so also between
the check for room and the latch of a byte XFER receives (assumption 23). -/
def execWrFifo (v : Byte) (s : State) : Host.Outcome State Fault Refusal :=
  event (fun t => fifoPush v t) s

/-- WR_CMD, offset 0x3 (R477): any command byte, the illegal ones too. -/
def execWrCmd (v : Byte) (s : State) : Host.Outcome State Fault Refusal :=
  event (fun t => commandWrite v t) s

/-- WR_DEST, offset 0x4 (R479). -/
def execWrDest (v : Byte) (s : State) : Host.Outcome State Fault Refusal :=
  event (fun t => { t with destId := v.setWidth 3 }) s

/-- WR_SELTO, offset 0x5 (R482). -/
def execWrSelto (v : Byte) (s : State) : Host.Outcome State Fault Refusal :=
  event (fun t => { t with selectTimeout := v }) s

/-- WR_SYNCPER, offset 0x6 (R485). -/
def execWrSyncper (v : Byte) (s : State) : Host.Outcome State Fault Refusal :=
  event (fun t => { t with syncPeriod := v.setWidth 5 }) s

/-- WR_SYNCOFF, offset 0x7 (R487). -/
def execWrSyncoff (v : Byte) (s : State) : Host.Outcome State Fault Refusal :=
  event (fun t => { t with syncOffset := v.setWidth 4 }) s

/-- WR_CONFIG, offset 0x8 (R489): latches the own ID; can set test mode, never clear it. -/
def execWrConfig (v : Byte) (s : State) : Host.Outcome State Fault Refusal :=
  event (fun t =>
      { t with config := v, ownId := v.setWidth 3, testMode := t.testMode || v.getLsbD 3 }) s

/-- WR_CCF, offset 0x9 (R490). -/
def execWrCcf (v : Byte) (s : State) : Host.Outcome State Fault Refusal :=
  event (fun t => { t with clockConv := v.setWidth 3 }) s

/-- WR_TEST, offset 0xa (R491). -/
def execWrTest (v : Byte) (s : State) : Host.Outcome State Fault Refusal :=
  event (fun t => { t with testReg := v }) s

/-- WR_CONFIG2, offset 0xb (R492): unmapped on NCR5390, where it has no effect (R101). -/
def execWrConfig2 (v : Byte) (s : State) : Host.Outcome State Fault Refusal :=
  event (fun t => if hasConfig2 t then { t with config2 := v } else t) s

/-- WR_CONFIG3, offset 0xc (R493): no effect but on NCR53C94 (R101). -/
def execWrConfig3 (v : Byte) (s : State) : Host.Outcome State Fault Refusal :=
  event (fun t => if hasConfig3 t then { t with config3 := v } else t) s

/-- WR_FALIGN, offset 0xf (R494): no effect but on NCR53C94 (R101). -/
def execWrFalign (v : Byte) (s : State) : Host.Outcome State Fault Refusal :=
  event (fun t => if hasConfig3 t then { t with fifoAlign := v } else t) s

end Sys2Proof.Machine
end

