-- ==== Sys2Proof/Machine/Target.lean ====
section
/-! DEFINITION. Group 2 commands (46): valid in mode Target only, where they are unimplemented; ILL elsewhere (R438).
The meaning of a command row is the host access the table's note describes: its byte is written at offset 0x3 (R300),
so queueing, gross error, validity, reload and the command's own rule (Machine/CommandRules.lean) all belong to it
(assumption 1). -/

namespace Sys2Proof.Machine

/-- SENDMSG, 0x20 (R440, R438). -/
def execSendmsg (d : Bool) (s : State) : Host.Outcome State Fault Refusal :=
  event (commandWrite (Cmd.sendmsg.byte d)) s

/-- SENDSTATUS, 0x21 (R441, R438). -/
def execSendstatus (d : Bool) (s : State) : Host.Outcome State Fault Refusal :=
  event (commandWrite (Cmd.sendstatus.byte d)) s

/-- SENDDATA, 0x22 (R442, R438). -/
def execSenddata (d : Bool) (s : State) : Host.Outcome State Fault Refusal :=
  event (commandWrite (Cmd.senddata.byte d)) s

/-- DISCSEQ, 0x23 (R443, R438). -/
def execDiscseq (d : Bool) (s : State) : Host.Outcome State Fault Refusal :=
  event (commandWrite (Cmd.discseq.byte d)) s

/-- TERMSEQ, 0x24 (R444, R438). -/
def execTermseq (d : Bool) (s : State) : Host.Outcome State Fault Refusal :=
  event (commandWrite (Cmd.termseq.byte d)) s

/-- TCCS, 0x25 (R445, R438). -/
def execTccs (d : Bool) (s : State) : Host.Outcome State Fault Refusal :=
  event (commandWrite (Cmd.tccs.byte d)) s

/-- DISCONNECT, 0x27 (R446, R438). -/
def execDisconnect (d : Bool) (s : State) : Host.Outcome State Fault Refusal :=
  event (commandWrite (Cmd.disconnect.byte d)) s

/-- RECVMSG, 0x28 (R447, R438). -/
def execRecvmsg (d : Bool) (s : State) : Host.Outcome State Fault Refusal :=
  event (commandWrite (Cmd.recvmsg.byte d)) s

/-- RECVCMD, 0x29 (R448, R438). -/
def execRecvcmd (d : Bool) (s : State) : Host.Outcome State Fault Refusal :=
  event (commandWrite (Cmd.recvcmd.byte d)) s

/-- RECVDATA, 0x2a (R449, R438). -/
def execRecvdata (d : Bool) (s : State) : Host.Outcome State Fault Refusal :=
  event (commandWrite (Cmd.recvdata.byte d)) s

/-- RECVCMDSEQ, 0x2b (R450, R438). -/
def execRecvcmdseq (d : Bool) (s : State) : Host.Outcome State Fault Refusal :=
  event (commandWrite (Cmd.recvcmdseq.byte d)) s

end Sys2Proof.Machine
end

