-- ==== Sys2Proof/Machine/Dispatch.lean ====
section
/-! DEFINITION. One arm per instruction, each a direct call of its meaning. -/

namespace Sys2Proof.Machine

def exec (i : Instr) (s : State) : Host.Outcome State Fault Refusal :=
  match i with
  | .nop d => Sys2Proof.Machine.execNop d s
  | .flush d => Sys2Proof.Machine.execFlush d s
  | .reset d => Sys2Proof.Machine.execReset d s
  | .resetbus d => Sys2Proof.Machine.execResetbus d s
  | .cmd04 d => Sys2Proof.Machine.execCmd04 d s
  | .xfer d => Sys2Proof.Machine.execXfer d s
  | .iccs d => Sys2Proof.Machine.execIccs d s
  | .msgacc d => Sys2Proof.Machine.execMsgacc d s
  | .pad d => Sys2Proof.Machine.execPad d s
  | .setatn d => Sys2Proof.Machine.execSetatn d s
  | .resetatn d => Sys2Proof.Machine.execResetatn d s
  | .sendmsg d => Sys2Proof.Machine.execSendmsg d s
  | .sendstatus d => Sys2Proof.Machine.execSendstatus d s
  | .senddata d => Sys2Proof.Machine.execSenddata d s
  | .discseq d => Sys2Proof.Machine.execDiscseq d s
  | .termseq d => Sys2Proof.Machine.execTermseq d s
  | .tccs d => Sys2Proof.Machine.execTccs d s
  | .disconnect d => Sys2Proof.Machine.execDisconnect d s
  | .recvmsg d => Sys2Proof.Machine.execRecvmsg d s
  | .recvcmd d => Sys2Proof.Machine.execRecvcmd d s
  | .recvdata d => Sys2Proof.Machine.execRecvdata d s
  | .recvcmdseq d => Sys2Proof.Machine.execRecvcmdseq d s
  | .reselect d => Sys2Proof.Machine.execReselect d s
  | .select d => Sys2Proof.Machine.execSelect d s
  | .selatn d => Sys2Proof.Machine.execSelatn d s
  | .selatnstop d => Sys2Proof.Machine.execSelatnstop d s
  | .ensel d => Sys2Proof.Machine.execEnsel d s
  | .dissel d => Sys2Proof.Machine.execDissel d s
  | .selatn3 d => Sys2Proof.Machine.execSelatn3 d s
  | .rdTclo => Sys2Proof.Machine.execRdTclo s
  | .rdTchi => Sys2Proof.Machine.execRdTchi s
  | .rdFifo => Sys2Proof.Machine.execRdFifo s
  | .rdCmd => Sys2Proof.Machine.execRdCmd s
  | .rdStat => Sys2Proof.Machine.execRdStat s
  | .rdIstat => Sys2Proof.Machine.execRdIstat s
  | .rdSeq => Sys2Proof.Machine.execRdSeq s
  | .rdFflags => Sys2Proof.Machine.execRdFflags s
  | .rdConfig => Sys2Proof.Machine.execRdConfig s
  | .rdConfig2 => Sys2Proof.Machine.execRdConfig2 s
  | .rdConfig3 => Sys2Proof.Machine.execRdConfig3 s
  | .wrTclo v => Sys2Proof.Machine.execWrTclo v s
  | .wrTchi v => Sys2Proof.Machine.execWrTchi v s
  | .wrFifo v => Sys2Proof.Machine.execWrFifo v s
  | .wrCmd v => Sys2Proof.Machine.execWrCmd v s
  | .wrDest v => Sys2Proof.Machine.execWrDest v s
  | .wrSelto v => Sys2Proof.Machine.execWrSelto v s
  | .wrSyncper v => Sys2Proof.Machine.execWrSyncper v s
  | .wrSyncoff v => Sys2Proof.Machine.execWrSyncoff v s
  | .wrConfig v => Sys2Proof.Machine.execWrConfig v s
  | .wrCcf v => Sys2Proof.Machine.execWrCcf v s
  | .wrTest v => Sys2Proof.Machine.execWrTest v s
  | .wrConfig2 v => Sys2Proof.Machine.execWrConfig2 v s
  | .wrConfig3 v => Sys2Proof.Machine.execWrConfig3 v s
  | .wrFalign v => Sys2Proof.Machine.execWrFalign v s
  | .dmard => Sys2Proof.Machine.execDmard s
  | .dmawr v => Sys2Proof.Machine.execDmawr v s

end Sys2Proof.Machine
end

