-- ==== Sys2Proof/Machine/Environment.lean ====
section
/-! DEFINITION. The agents other than the host: the bus environment (R204, R205), the timer (R211), and the accesses
that are no row of the opcode table (R101, R154). -/

namespace Sys2Proof.Machine

/-- A change of the other devices' drive (R204, R205): the controller is notified when the control lines it sees
change; RST asserted is the bus-reset response (R573), anything else `Step(Signal)`. Data lines alone do not notify. -/
def busChange (ctrl : Lines) (data : Byte) (s : State) : State :=
  let t := { s with envCtrl := ctrl, envData := data }
  if busCtrl t = busCtrl s then t
  else if asserted (busCtrl t) lineRst then busReset t
  else seqStep .signal t

/-- Expiry of the timer (R211): enabled while it is armed. An expiry of a disarmed timer is no event of the device
(assumption 12). It runs `Step(Timeout)` in whatever state the sequencer is then in (R213), so after the pop of a
running command it can advance a state that did not arm the timer, against the derived R267 (assumption 21). -/
def timerExpiry (s : State) : State :=
  match s.timer with
  | some _ => seqStep .timeout { s with timer := none }
  | none => s

/-- An access the decoder rejects still has the spec's effect: an unmapped read answers a draw and an unmapped write
does nothing (R101, R495); a command byte without a command is written like any other, and is illegal (R154, R305). -/
def rejectedAccess (r : Reject) (s : State) : State :=
  match r with
  | .notACommand v => commandWrite v s
  | .unmappedRead _ => answerDraw s
  | .unmappedWrite _ _ => s

/-- A bus change as an event. -/
def runBus (ctrl : Lines) (data : Byte) (s : State) : Host.Outcome State Fault Refusal := event (busChange ctrl data) s

/-- A timer expiry as an event. -/
def runTimer (s : State) : Host.Outcome State Fault Refusal := event timerExpiry s

/-- A rejected access as an event. -/
def runRejected (r : Reject) (s : State) : Host.Outcome State Fault Refusal := event (rejectedAccess r) s

/-- No event is left: between events the block is idle by construction (R556, R577); a faulted one is stuck. -/
def runIdle (s : State) : Host.Outcome State Fault Refusal :=
  match s.fault with
  | some k => .fault k
  | none => .next s

end Sys2Proof.Machine
end

