-- ==== Sys2Proof/Machine/Step.lean ====
section
/-! DEFINITION. One step: the oldest event still to come is taken by its agent (R10, R11, R130). The list is plain
data and every list is a run, so a statement about every state is one about every order of the agents
(assumption 3). -/

namespace Sys2Proof.Machine

/-- An event on the state it acts on. -/
def runEvent (e : Event) (s : State) : Host.Outcome State Fault Refusal :=
  match e with
  | .access a =>
    match decode a with
    | .ok i => exec i s
    | .error r => runRejected r s
  | .bus ctrl data => runBus ctrl data s
  | .timer => runTimer s

/-- One step of the machine. -/
def step (s : State) : Host.Outcome State Fault Refusal :=
  match s.events with
  | [] => runIdle s
  | e :: rest => runEvent e { s with events := rest }

/-- `s` with the instruction of a table word placed as the next event (assumptions 3 and 4). -/
def State.withFetchWord (s : State) (nbits w : Nat) : State :=
  { s with events := .access (tableAccess nbits w) :: s.events }

end Sys2Proof.Machine
end

