-- ==== Sys2Proof/Safety.lean ====
section
/-! DEFINITION. The terms claims are stated in: a live device, the invariant `Sound` that every step keeps, what the
DMA bit of a command does when it starts, and the FIFO's own history for its law (R106). -/

namespace Sys2Proof.Machine

/-- The device can act: no fault is set (R52). -/
abbrev State.live (s : State) : Prop := s.fault = none

/-- The device waits for a command: nothing is queued (R31). -/
abbrev State.queueEmpty (s : State) : Prop := s.cmdCount = 0

/-- The sub-states of arbitration (R233). -/
def Sub.isArbitration : Sub → Bool
  | .arbComplete => true
  | .arbAssertSel => true
  | .arbSetDest => true
  | .arbReleaseBusy => true
  | .arbTimeoutBusy => true
  | .arbTimeoutAbort => true
  | .arbDeskewWait => true
  | .sendWaitSettle => false
  | .sendWaitReq0 => false
  | .recvWaitReq1 => false
  | .recvWaitSettle => false
  | .recvWaitReq0 => false

/-- The sub-states that end on a Timeout (R251 to R257, R261, R265). -/
def Sub.waitsForTimer : Sub → Bool
  | .arbComplete => true
  | .arbAssertSel => true
  | .arbSetDest => true
  | .arbReleaseBusy => true
  | .arbTimeoutBusy => true
  | .arbTimeoutAbort => true
  | .arbDeskewWait => true
  | .sendWaitSettle => true
  | .sendWaitReq0 => false
  | .recvWaitReq1 => false
  | .recvWaitSettle => true
  | .recvWaitReq0 => false

/-- The coarse states a sub-state may run on top of (R233): arbitration on a selection's first, a send on the states
that call `SendByte`, a receive on those that call `RecvByte`. -/
def Sub.runsOn (u : Sub) (c : Coarse) : Bool :=
  if u.isArbitration then c == .discSelArbitrationInit
  else if u = .sendWaitSettle ∨ u = .sendWaitReq0 then
    [Coarse.discSelAtnSendByte, .discSelSendByte, .initXfrSendByte, .initXfrSendPad].contains c
  else
    [Coarse.initXfrRecvByteAck, .initXfrRecvByteNack, .initCptRecvByteAck, .initCptRecvByteNack,
      .initXfrRecvPad].contains c

/-- The lines this controller never holds driven between events: REQ, MSG, CD and IO (R203), and RST, whose pulses are
notices inside an event (assumption 13). -/
def neverDriven : Lines := lineReq ||| lineMsg ||| lineCd ||| lineIo ||| lineRst

/-- The invariant of the device: what holds at reset and after every step. -/
structure Sound (s : State) : Prop where
  /-- The FIFO holds 16 bytes at most (R33, R106). -/
  fifoBound : s.fifo.length ≤ Config.fifoDepth
  /-- IRQ reflects the interrupt status (R531). -/
  irqFollows : s.irq = (s.istatus != 0x00#8)
  /-- DRQ follows its formula (R535): bytes to give inward, room to take outward before terminal count. -/
  drqFollows : s.drq =
    ((s.dmaDir == .inward && !s.fifo.isEmpty) || (s.dmaDir == .outward && !s.tc && decide (s.fifo.length < 16)))
  /-- The controller holds only its own role's lines (R203, assumption 13). -/
  drivesOwnLines : s.ctrlDrive &&& neverDriven = 0#9
  /-- Mode Target is never entered (R438). -/
  notTarget : s.mode ≠ .target
  /-- RESEL, SELATN and SEL are never set (R166, R520). -/
  noTargetCause : s.istatus &&& 0x07#8 = 0x00#8
  /-- PE is never set (R521). -/
  noParityError : s.pe = false
  /-- The sequence step is 0 to 4 (R43). -/
  seqBound : s.seq.toNat ≤ 4
  /-- `command_length` is at most 16 + 65535 (R48). -/
  lengthBound : s.commandLength ≤ 16 + 65535
  /-- A sub-state runs on a coarse state it was entered from (R233, R237). -/
  position : ∀ u, s.sub = some u → u.runsOn s.coarse = true
  /-- Arbitration runs in mode Disconnected only (R257). -/
  arbitrationMode : ∀ u, s.sub = some u → u.isArbitration = true → s.mode = .disconnected
  /-- In mode Disconnected the sequencer is idle or arbitrates (R234, R257). -/
  disconnectedQuiet : s.mode = .disconnected →
    s.coarse = .idle ∨ ∃ u, s.sub = some u ∧ u.isArbitration = true
  /-- On a live device a sub-state that waits for the timer has it armed (R267); a fault may leave one waiting. -/
  timerArmed : s.fault = none → ∀ u, s.sub = some u → u.waitsForTimer = true → s.timer.isSome = true
  /-- A reset byte never waits in the queue (R301). -/
  noQueuedReset : s.cmdCount = 2 → isResetByte s.command1 = false

/-- The DMA bit's effect at a command's start, on the counter and TC alone (R306). -/
def reloaded (d : Bool) (s : State) : State :=
  { s with
    dmaCommand := d
    tcounter := if d then s.tcount else s.tcounter
    tc := if d then false else s.tc }

/-- A command byte has just been accepted into the empty queue as the current command (R300), its event begun, and
the DMA bit taken (R306). -/
def accepted (k : Cmd) (d : Bool) (s : State) : State :=
  updateDrq (reloaded d { s with notices := [], command0 := k.byte d, cmdCount := 1 })

/-- One use of the FIFO (R106). -/
inductive FifoUse
  | push (b : Byte)
  | pop
  deriving DecidableEq, Repr

/-- The FIFO's history: the state, the bytes it took in and the bytes it gave out, each in order. -/
structure FifoRun where
  state : State
  taken : List Byte
  given : List Byte

/-- One use: a push below capacity takes its byte in; a pop of a non-empty FIFO gives its head out. -/
def FifoRun.use (r : FifoRun) : FifoUse → FifoRun
  | .push b =>
    { state := fifoPush b r.state
      taken := if r.state.fifo.length < Config.fifoDepth then r.taken ++ [b] else r.taken
      given := r.given }
  | .pop =>
    { state := fifoPop r.state
      taken := r.taken
      given := if r.state.fifo.isEmpty then r.given else r.given ++ [fifoHead r.state] }

end Sys2Proof.Machine
end

