-- ==== Sys2Proof/Certificates/Slice0/Obligations.lean ====
section
/-! DEFINITION. The statements for the provers. Each docstring names the rules of spec/ it formalises. What is the model's
own in them, and no rule of the spec: the list of events still to come (assumption 3), free values as `Config.draw` of
`State.draws` (assumptions 6 and 7), the byte a read returns as `readData` (assumption 8), the notices, which an event
clears at its start (assumption 9), and a raised fault as a next state whose later steps answer the outcome `fault`
(assumption 10). -/

open Sys2Proof Sys2Proof.Machine

/-! ### Encoding and the step -/

/-- Decoding an encoded instruction gives it back, every operand at every value (R150, R152, R170). -/
def Obligations.DecodeInvertsEncode : Prop :=
  ∀ i : Instr, decode (encode i) = .ok i

/-- An accepted access is the encoding of the instruction it decodes to, so every accepted word has one meaning
(R150, R152, R170). -/
def Obligations.EncodeInvertsDecode : Prop :=
  ∀ (a : Access) (i : Instr), decode a = .ok i → encode i = a

/-- Words written out from the tables of R152 and R170 decode to the instructions they stand for, and the reserved
code 0x26 to none. -/
def Obligations.SampleWordsDecode : Prop :=
  decode (.cmd 0b00000001#8) = .ok (.flush false) ∧
  decode (.cmd 0b10010000#8) = .ok (.xfer true) ∧
  decode (.cmd 0b00101011#8) = .ok (.recvcmdseq false) ∧
  decode (.cmd 0b11000010#8) = .ok (.selatn true) ∧
  decode (.cmd 0b00100110#8) = .error (.notACommand 0b00100110#8) ∧
  decode (.regRead 0b0101#4) = .ok .rdIstat ∧
  decode (.regWrite 0b1000#4 0b01000111#8) = .ok (.wrConfig 0b01000111#8) ∧
  decode (.dmaWrite 0b00010010#8) = .ok (.dmawr 0b00010010#8)

/-- The validity table by the codes themselves (R153): which codes a variant has in a mode. Every valid code has a
command in the case of R308, which the variant has. -/
def Obligations.ValidCodesHaveACommand : Prop :=
  ∀ (var : Config.Variant) (m : Mode) (c : CmdCode),
    (commandValid var m c = true ↔
      c ∈ [0x00#7, 0x01#7, 0x02#7, 0x03#7] ∨
      (c = 0x04#7 ∧ var ≠ .ncr5390) ∨
      (m = .initiator ∧ c ∈ [0x10#7, 0x11#7, 0x12#7, 0x18#7, 0x1a#7, 0x1b#7]) ∨
      (m = .target ∧ c ∈ [0x20#7, 0x21#7, 0x22#7, 0x23#7, 0x24#7, 0x25#7, 0x27#7, 0x28#7, 0x29#7, 0x2a#7, 0x2b#7]) ∨
      (m = .disconnected ∧ c ∈ [0x40#7, 0x41#7, 0x42#7, 0x43#7, 0x44#7, 0x45#7]) ∨
      (m = .disconnected ∧ c = 0x46#7 ∧ var ≠ .ncr5390)) ∧
    (commandValid var m c = true →
      ∃ k, decodeCmd c = some k ∧ k.code = c ∧ (k.instr false).wellFormed var = true)

/-- When the oldest event still to come is an access that decodes to an instruction, the step is that instruction's
`exec` on the state with the event taken. Holds for every instruction, whatever the variant. -/
def Obligations.StepRunsDecodedInstruction : Prop :=
  ∀ (s : State) (a : Access) (rest : List Event) (i : Instr),
    s.events = .access a :: rest → decode a = .ok i →
    step s = exec i { s with events := rest }

/-- A command's mnemonic and the write of its byte at offset 0x3 are the same access (R156, R300), as instructions and
as events. -/
def Obligations.MnemonicIsItsByteWrite : Prop :=
  (∀ (k : Cmd) (d : Bool) (s : State), exec (k.instr d) s = exec (.wrCmd (k.byte d)) s) ∧
  (∀ (v : Byte) (s : State) (rest : List Event),
    step { s with events := .access (.cmd v) :: rest } =
      step { s with events := .access (.regWrite 0x3#4 v) :: rest })

/-- A device whose fault is set takes no event: every instruction and every step stops with that fault (R52). -/
def Obligations.FaultedDeviceIsStuck : Prop :=
  ∀ (s : State) (k : Fault), s.fault = some k →
    (∀ i, exec i s = .fault k) ∧ step s = .fault k

/-- On a live device every instruction answers a next state. For the register accesses, the command bytes among them,
this is R496: every access is legal in every state and mode. That DMARD and DMAWR without a request (R110, R111) and
the unimplemented commands (R348, R366, R370, R440 to R450) answer one too is the model's reading of a raise, a next
state with `fault` set (assumption 10). -/
def Obligations.EveryInstructionAnswers : Prop :=
  ∀ (i : Instr) (s : State), s.live → ∃ t, exec i s = .next t

/-! ### Register writes -/

/-- WR_TCLO and WR_TCHI replace one byte of the load value and change nothing else (R471, R125). -/
def Obligations.CounterLoadWrites : Prop :=
  ∀ (s : State) (v : Byte), s.live →
    exec (.wrTclo v) s = .next { s with notices := [], tcount := s.tcount.extractLsb' 8 8 ++ v } ∧
    exec (.wrTchi v) s = .next { s with notices := [], tcount := v ++ s.tcount.extractLsb' 0 8 }

/-- The plain register writes store their field and change nothing else (R479, R482, R485, R487, R490, R491). -/
def Obligations.PlainRegisterWrites : Prop :=
  ∀ (s : State) (v : Byte), s.live →
    exec (.wrDest v) s = .next { s with notices := [], destId := v.extractLsb' 0 3 } ∧
    exec (.wrSelto v) s = .next { s with notices := [], selectTimeout := v } ∧
    exec (.wrSyncper v) s = .next { s with notices := [], syncPeriod := v.extractLsb' 0 5 } ∧
    exec (.wrSyncoff v) s = .next { s with notices := [], syncOffset := v.extractLsb' 0 4 } ∧
    exec (.wrCcf v) s = .next { s with notices := [], clockConv := v.extractLsb' 0 3 } ∧
    exec (.wrTest v) s = .next { s with notices := [], testReg := v }

/-- WR_CONFIG latches the own ID and can set test mode, never clear it; nothing else changes (R489). -/
def Obligations.ConfigWriteLatches : Prop :=
  ∀ (s : State) (v : Byte), s.live →
    exec (.wrConfig v) s =
      .next { s with
        notices := []
        config := v
        ownId := v.extractLsb' 0 3
        testMode := if v.getLsbD 3 then true else s.testMode }

/-- The registers only some variants have: CONFIG2 on NCR53C90A and NCR53C94 (R492), CONFIG3 (R493) and FALIGN (R494)
on NCR53C94, FALIGN write-only. Where the variant lacks one, a read answers a free value and a write does nothing. -/
def Obligations.VariantRegisters : Prop :=
  ∀ (s : State) (v : Byte), s.live →
    exec .rdConfig2 s =
      (if s.params.variant = .ncr53c90a ∨ s.params.variant = .ncr53c94 then
        .next { s with notices := [], readData := s.config2 }
      else .next { s with notices := [], readData := Config.draw 8 s.draws, draws := s.draws + 1 }) ∧
    exec (.wrConfig2 v) s =
      (if s.params.variant = .ncr53c90a ∨ s.params.variant = .ncr53c94 then
        .next { s with notices := [], config2 := v }
      else .next { s with notices := [] }) ∧
    exec .rdConfig3 s =
      (if s.params.variant = .ncr53c94 then .next { s with notices := [], readData := s.config3 }
      else .next { s with notices := [], readData := Config.draw 8 s.draws, draws := s.draws + 1 }) ∧
    exec (.wrConfig3 v) s =
      (if s.params.variant = .ncr53c94 then .next { s with notices := [], config3 := v }
      else .next { s with notices := [] }) ∧
    exec (.wrFalign v) s =
      (if s.params.variant = .ncr53c94 then .next { s with notices := [], fifoAlign := v }
      else .next { s with notices := [] }) ∧
    decode (.regRead 0xf#4) = .error (.unmappedRead 0xf#4)

/-- Accesses to offsets the variant does not map are no errors (R101): a read of a write-only or absent offset answers
a free value, a write of an absent one does nothing, and no state of the device changes. -/
def Obligations.UnmappedAccessesChangeNothing : Prop :=
  ∀ (s : State) (rest : List Event) (off : Offset) (v : Byte), s.live →
    (off ∈ [0x9#4, 0xa#4, 0xd#4, 0xe#4, 0xf#4] → s.events = .access (.regRead off) :: rest →
      step s = .next { s with
        notices := [], events := rest, readData := Config.draw 8 s.draws, draws := s.draws + 1 }) ∧
    (off ∈ [0xd#4, 0xe#4] → s.events = .access (.regWrite off v) :: rest →
      step s = .next { s with notices := [], events := rest }) ∧
    (s.params.variant = .ncr5390 →
      exec .rdConfig2 s = .next { s with
        notices := [], readData := Config.draw 8 s.draws, draws := s.draws + 1 } ∧
      exec (.wrConfig2 v) s = .next { s with notices := [] }) ∧
    (s.params.variant ≠ .ncr53c94 →
      exec .rdConfig3 s = .next { s with
        notices := [], readData := Config.draw 8 s.draws, draws := s.draws + 1 } ∧
      exec (.wrConfig3 v) s = .next { s with notices := [] } ∧
      exec (.wrFalign v) s = .next { s with notices := [] })

/-- The FIFO register: a write appends the byte or, at 16 bytes, drops it; a read pops the head or, on an empty FIFO,
answers a free value. DRQ is re-derived by R535's formula, written out here: 0 with the DMA off, "not empty" inward,
"not at terminal count and not full" outward. Nothing else changes, so the sequencer is not run and the counter does
not move (R472, R473, R104, R105, R535). -/
def Obligations.FifoRegisterAccess : Prop :=
  ∀ (s : State) (v : Byte), s.live →
    let drqWith (f : List Byte) : Bool :=
      (s.dmaDir == .inward && !f.isEmpty) || (s.dmaDir == .outward && !s.tc && decide (f.length < 16))
    let edge (d : Bool) : List Notice := if d = s.drq then [] else [.drq d]
    (s.fifo.length < 16 →
      exec (.wrFifo v) s = .next { s with
        notices := edge (drqWith (s.fifo ++ [v])), fifo := s.fifo ++ [v], drq := drqWith (s.fifo ++ [v]) }) ∧
    (16 ≤ s.fifo.length →
      exec (.wrFifo v) s = .next { s with notices := edge (drqWith s.fifo), drq := drqWith s.fifo }) ∧
    (∀ (b : Byte) (rest : List Byte), s.fifo = b :: rest →
      exec .rdFifo s = .next { s with
        notices := edge (drqWith rest), fifo := rest, drq := drqWith rest, readData := b }) ∧
    (s.fifo = [] →
      exec .rdFifo s = .next { s with
        notices := edge (drqWith []), drq := drqWith []
        readData := Config.draw 8 s.draws, draws := s.draws + 1 })

/-! ### Register reads -/

/-- The reads without a side effect answer their field and change no state of the device (R470, R476, R484, R486,
R488). -/
def Obligations.PlainRegisterReads : Prop :=
  ∀ s : State, s.live →
    exec .rdTclo s = .next { s with notices := [], readData := s.tcounter.extractLsb' 0 8 } ∧
    exec .rdTchi s = .next { s with notices := [], readData := s.tcounter.extractLsb' 8 8 } ∧
    exec .rdCmd s = .next { s with notices := [], readData := s.command0 } ∧
    exec .rdSeq s = .next { s with notices := [], readData := s.seq.zeroExtend 8 } ∧
    exec .rdFflags s = .next { s with notices := [], readData := BitVec.ofNat 8 s.fifo.length } ∧
    exec .rdConfig s = .next { s with notices := [], readData := s.config }

/-- RD_STAT composes the status byte at the time of the read, bit by bit, and changes no state of the device (R478,
R164): INT on the later variants, GE, PE, TC, 0, and the live bus phase. -/
def Obligations.StatusReadComposes : Prop :=
  ∀ s : State, s.live →
    ∃ b : Byte, exec .rdStat s = .next { s with notices := [], readData := b } ∧
      b.getLsbD 7 = (s.irq && s.params.variant != .ncr5390) ∧
      b.getLsbD 6 = s.ge ∧ b.getLsbD 5 = s.pe ∧ b.getLsbD 4 = s.tc ∧ b.getLsbD 3 = false ∧
      b.getLsbD 2 = asserted (busCtrl s) lineMsg ∧
      b.getLsbD 1 = asserted (busCtrl s) lineCd ∧
      b.getLsbD 0 = asserted (busCtrl s) lineIo

/-- RD_ISTAT answers the causes latched before it, clears them with seq, GE and PE, keeps TC and re-derives IRQ (R480).
With no cause it pops nothing (R481); with one it pops the command, and a second queued command starts in the same
event, exactly as its byte written into the emptied queue would.
Returning the byte in `readData` is the model's (assumption 8). -/
def Obligations.IstatusReadClearsAndChains : Prop :=
  ∀ s : State, s.live →
    let cleared : State := { s with
      notices := if s.irq then [.irq false] else []
      istatus := 0x00#8, irq := false, seq := 0#3, ge := false, pe := false }
    (s.istatus = 0x00#8 → exec .rdIstat s = .next { cleared with readData := 0x00#8 }) ∧
    (s.istatus ≠ 0x00#8 → s.cmdCount ≠ 2 →
      exec .rdIstat s = .next { cleared with cmdCount := 0, readData := s.istatus }) ∧
    (s.istatus ≠ 0x00#8 → s.cmdCount = 2 →
      exec .rdIstat s =
        .next (answer s.istatus (commandWrite s.command1 { cleared with cmdCount := 0 })))

/-! ### The command queue -/

/-- Gross error: a third command byte sets GE and nothing else; only a reset byte escapes it (R302, R301). -/
def Obligations.ThirdCommandIsGrossError : Prop :=
  ∀ (s : State) (v : Byte), s.live → s.cmdCount = 2 → v &&& 0x7f#8 ≠ 0x02#8 → v &&& 0x7f#8 ≠ 0x03#8 →
    exec (.wrCmd v) s = .next { s with notices := [], ge := true }

/-- A command byte behind one pending command is queued, and nothing starts (R300). -/
def Obligations.SecondCommandIsQueued : Prop :=
  ∀ (s : State) (v : Byte), s.live → s.cmdCount = 1 → v &&& 0x7f#8 ≠ 0x02#8 → v &&& 0x7f#8 ≠ 0x03#8 →
    exec (.wrCmd v) s = .next { s with notices := [], command1 := v, cmdCount := 2 }

/-- A byte whose code is not valid for the variant and the mode sets ILL, which asserts IRQ, and stays in slot 0;
nothing else changes, the DMA reload does not happen (R305, R154). Which codes are valid is R153's table, by the codes
themselves: 0x00 to 0x03 always, 0x04 but for NCR5390, the initiator codes in mode Initiator only, the target codes in
mode Target only, 0x40 to 0x45 in mode Disconnected only, 0x46 there but for NCR5390. -/
def Obligations.IllegalCommandSetsIll : Prop :=
  ∀ (s : State) (v : Byte), s.live → s.queueEmpty →
    let c := v &&& 0x7f#8
    c ∉ [0x00#8, 0x01#8, 0x02#8, 0x03#8] →
    (s.params.variant ≠ .ncr5390 → c ≠ 0x04#8) →
    (s.mode = .initiator → c ∉ [0x10#8, 0x11#8, 0x12#8, 0x18#8, 0x1a#8, 0x1b#8]) →
    (s.mode = .target →
      c ∉ [0x20#8, 0x21#8, 0x22#8, 0x23#8, 0x24#8, 0x25#8, 0x27#8, 0x28#8, 0x29#8, 0x2a#8, 0x2b#8]) →
    (s.mode = .disconnected → c ∉ [0x40#8, 0x41#8, 0x42#8, 0x43#8, 0x44#8, 0x45#8]) →
    (s.mode = .disconnected → s.params.variant ≠ .ncr5390 → c ≠ 0x46#8) →
    exec (.wrCmd v) s = .next { s with
      notices := if s.irq then [] else [.irq true]
      command0 := v, cmdCount := 1, istatus := s.istatus ||| 0x40#8, irq := true }

/-- Every target command outside mode Target is illegal (R438). -/
def Obligations.TargetCommandsIllegalOutsideTarget : Prop :=
  ∀ (s : State) (d : Bool) (k : Cmd), s.live → s.queueEmpty → s.mode ≠ .target →
    k ∈ [Cmd.sendmsg, .sendstatus, .senddata, .discseq, .termseq, .tccs, .disconnect, .recvmsg, .recvcmd,
      .recvdata, .recvcmdseq] →
    exec (k.instr d) s = .next { s with
      notices := if s.irq then [] else [.irq true]
      command0 := k.byte d, cmdCount := 1, istatus := s.istatus ||| 0x40#8, irq := true }

/-- A queued second command starts only at an interrupt-status read (R322, R586): any other step keeps it in slot 1, and
keeps the queue too, unless the step empties it, which only these do: a reset byte (R301); a bus reset (R573), with RST
seen; a disconnect with its cause, the connection ended and no BSY on the bus, be it an initiator's (R234, R235) or
that of a selection nobody answered (R256). -/
def Obligations.QueuedCommandWaits : Prop :=
  ∀ s t : State, s.cmdCount = 2 → step s = .next t →
    (∀ rest, s.events ≠ .access (.regRead 0x5#4) :: rest) →
    t.command1 = s.command1 ∧
    ((t.cmdCount = 2 ∧ t.command0 = s.command0) ∨
      (t.cmdCount = 0 ∧ ∃ v rest, (v &&& 0x7f#8 = 0x02#8 ∨ v &&& 0x7f#8 = 0x03#8) ∧
        (s.events = .access (.cmd v) :: rest ∨ s.events = .access (.regWrite 0x3#4 v) :: rest)) ∨
      (t.cmdCount = 0 ∧ t.command0 = s.command0 ∧
        ∃ c b rest, s.events = .bus c b :: rest ∧ asserted (s.ctrlDrive ||| c) lineRst = true) ∨
      (t.cmdCount = 0 ∧ t.command0 = s.command0 ∧ asserted t.envCtrl lineBsy = false ∧
        t.mode = .disconnected ∧ t.coarse = .idle ∧ t.sub = none ∧ t.dmaDir = .off ∧
        t.ctrlDrive = 0#9 ∧ t.dataDrive = 0x00#8 ∧
        (((s.mode = .initiator ∨ s.sub = some .arbDeskewWait) ∧ t.istatus = s.istatus ||| 0x20#8) ∨
          (s.sub = some .arbTimeoutAbort ∧ t.istatus = s.istatus |||
            if s.params.selTimeoutCause = .dis then 0x20#8 else 0x08#8))))

/-! ### Group 0 and the commands that pop themselves -/

/-- NOP, FLUSH, ENSEL, DISSEL, SETATN and RESETATN in an empty queue: the DMA bit's reload, the command's own effect,
and the command has popped itself; nothing else changes (R306, R321, R340, R342, R368, R369, R430, R432). -/
def Obligations.ImmediateCommands : Prop :=
  ∀ (s : State) (d : Bool), s.live → s.queueEmpty →
    exec (.nop d) s = .next { accepted .nop d s with cmdCount := 0 } ∧
    exec (.flush d) s = .next { updateDrq { accepted .flush d s with fifo := [] } with cmdCount := 0 } ∧
    (s.mode = .disconnected →
      exec (.ensel d) s = .next { accepted .ensel d s with cmdCount := 0 } ∧
      exec (.dissel d) s = .next { accepted .dissel d s with cmdCount := 0 }) ∧
    (s.mode = .initiator →
      exec (.setatn d) s = .next { accepted .setatn d s with
        ctrlDrive := s.ctrlDrive ||| lineAtn, cmdCount := 0 } ∧
      exec (.resetatn d) s = .next { accepted .resetatn d s with
        ctrlDrive := s.ctrlDrive &&& ~~~lineAtn, cmdCount := 0 })

/-- RESET, whatever is queued or in flight, is the hard reset (R344, R301, R570): the values the spec gives, free values
in the seven fields it leaves drawn, every line released; the parameters, the bus as others drive it, slot 1 and the
model's own input and output fields are kept. -/
def Obligations.ResetCommandHardResets : Prop :=
  ∀ (s : State) (d : Bool), s.live →
    ∃ n, exec (.reset d) s = .next { s with
      notices := n
      command0 := if d then 0x82#8 else 0x02#8
      cmdCount := 0, dmaCommand := false, fifo := []
      config := 0x00#8, ownId := 0#3, testMode := false, config2 := 0x00#8, config3 := 0x00#8
      fifoAlign := Config.draw 8 s.draws, testReg := Config.draw 8 (s.draws + 1)
      destId := Config.draw 3 (s.draws + 2), selectTimeout := Config.draw 8 (s.draws + 3)
      tcount := Config.draw 16 (s.draws + 4), tcounter := Config.draw 16 (s.draws + 5)
      xfrPhase := Config.draw 3 (s.draws + 6), draws := s.draws + 7
      clockConv := 2#3, syncPeriod := 5#5, syncOffset := 0#4
      ge := false, pe := false, tc := false, istatus := 0x00#8, seq := 0#3
      mode := .disconnected, coarse := .idle, sub := none
      dmaDir := .off, commandLength := 0, irq := false, drq := false
      timer := none, ctrlDrive := 0#9, dataDrive := 0x00#8 }

/-- RESETBUS, whatever is queued or in flight, is the soft reset (R346, R301, R572): the connection and the sequencer
are cleared and every line released; the FIFO, flags, causes, configuration and timing are kept. Where the parameter
says so, and only there, the controller puts out an RST pulse (the notice is the model's, assumption 13). -/
def Obligations.ResetbusCommandSoftResets : Prop :=
  ∀ (s : State) (d : Bool), s.live →
    ∃ n, exec (.resetbus d) s = .next { s with
      notices := n
      command0 := if d then 0x83#8 else 0x03#8
      cmdCount := 0, dmaCommand := false
      tcounter := if d then s.tcount else s.tcounter
      tc := if d then false else s.tc
      testMode := false, mode := .disconnected, coarse := .idle, sub := none
      dmaDir := .off, commandLength := 0, irq := s.istatus != 0x00#8, drq := false
      timer := none, ctrlDrive := 0#9, dataDrive := 0x00#8 } ∧
    (Notice.rst true ∈ n ↔ s.params.resetBusDrivesRst = true)

/-- The commands the block does not implement raise UnimplementedCommand when they start, after the reload, and the
device is then stuck (R348, R366, R370, R440 to R450, R541). -/
def Obligations.UnimplementedCommandsFault : Prop :=
  ∀ (s : State) (d : Bool), s.live → s.queueEmpty →
    (s.params.variant ≠ .ncr5390 →
      exec (.cmd04 d) s = .next { accepted .cmd04 d s with fault := some .unimplementedCommand }) ∧
    (s.mode = .disconnected →
      exec (.reselect d) s = .next { accepted .reselect d s with fault := some .unimplementedCommand }) ∧
    (s.mode = .disconnected → s.params.variant ≠ .ncr5390 →
      exec (.selatn3 d) s = .next { accepted .selatn3 d s with fault := some .unimplementedCommand }) ∧
    (s.mode = .target →
      ∀ k ∈ [Cmd.sendmsg, .sendstatus, .senddata, .discseq, .termseq, .tccs, .disconnect, .recvmsg,
          .recvcmd, .recvdata, .recvcmdseq],
        exec (k.instr d) s = .next { accepted k d s with fault := some .unimplementedCommand })

/-! ### Selection -/

/-- SELECT, SELATN and SELATNSTOP start arbitration: own ID on the data lines, BSY driven, the settle delay armed, DMA
direction Out with the DMA bit; nothing else changes (R360, R362, R364, R250, R306). -/
def Obligations.SelectionsStartArbitration : Prop :=
  ∀ (s : State) (d : Bool) (k : Cmd), s.live → s.queueEmpty → s.mode = .disconnected →
    k ∈ [Cmd.select, .selatn, .selatnstop] →
    ∃ n, exec (k.instr d) s = .next { s with
      notices := n
      command0 := k.byte d, cmdCount := 1, dmaCommand := d
      tcounter := if d then s.tcount else s.tcounter
      tc := if d then false else s.tc
      seq := 0#3, coarse := .discSelArbitrationInit, sub := some .arbComplete
      dmaDir := if d then .outward else .off
      drq := d && decide (s.fifo.length < 16)
      dataDrive := 1#8 <<< s.ownId.toNat
      ctrlDrive := s.ctrlDrive ||| lineBsy
      timer := some (s.params.delayArb * if s.clockConv = 0#3 then 8 else s.clockConv.toNat) }

/-- The arbitration winner is the highest-numbered bit set in the data lines (R251, R162). -/
def Obligations.WinnerIsHighestBit : Prop :=
  ∀ (data : Byte) (n : BusId), highestId data = some n ↔
    data.getLsbD n.toNat = true ∧ ∀ m : BusId, n < m → data.getLsbD m.toNat = false

/-- Arbitration and the selection it wins (R251, R252, R253), at each expiry of the timer: the winner asserts SEL; a loser
releases every line and raises ArbitrationLost; then both IDs go on the data lines; then BSY is released, and ATN is
asserted for SELATN and SELATNSTOP and for no other command. With no bit set on the data lines there is no winner, and
the loser's clause holds of that too, which is assumption 18 and not R251. -/
def Obligations.ArbitrationDecides : Prop :=
  ∀ (s : State) (rest : List Event), s.live → s.events = .timer :: rest → s.timer.isSome = true →
    s.mode ≠ .initiator →
    let ccf := if s.clockConv = 0#3 then 8 else s.clockConv.toNat
    (s.sub = some .arbComplete → highestId (busData s) = some s.ownId →
      step s = .next { s with
        notices := [], events := rest, sub := some .arbAssertSel
        ctrlDrive := s.ctrlDrive ||| lineSel
        timer := some (s.params.delaySel * ccf) }) ∧
    (s.sub = some .arbComplete → highestId (busData s) ≠ some s.ownId →
      step s = .next { s with
        notices := [], events := rest, timer := none
        ctrlDrive := 0#9, dataDrive := 0x00#8, fault := some .arbitrationLost }) ∧
    (s.sub = some .arbAssertSel →
      step s = .next { s with
        notices := [], events := rest, sub := some .arbSetDest
        dataDrive := 1#8 <<< s.ownId.toNat ||| 1#8 <<< s.destId.toNat
        timer := some s.params.delayDest }) ∧
    (s.sub = some .arbSetDest →
      step s = .next { s with
        notices := [], events := rest, sub := some .arbReleaseBusy
        ctrlDrive :=
          if s.command0.extractLsb' 0 7 = 0x42#7 ∨ s.command0.extractLsb' 0 7 = 0x43#7 then
            s.ctrlDrive &&& ~~~lineBsy ||| lineAtn
          else s.ctrlDrive &&& ~~~(lineAtn ||| lineBsy)
        timer := some (s.params.delayRel * ccf) })

/-- A target that does not answer (R254, R255, R256): no BSY when BSY is released arms the selection timeout; its
expiry releases the data lines and arms the abort delay; the abort with no BSY ends the connection with the
parameter's cause, the queue emptied and every line released. BSY leads to the deskew wait: at the expiry that ends
ARB_RELEASE_BUSY or ARB_TIMEOUT_ABORT, and on Signal in ARB_TIMEOUT_BUSY, where Signal without BSY changes nothing. The
other six sub-states of arbitration wait for elapsed time, so Signal changes nothing there (R231). -/
def Obligations.SelectionTimeoutSequence : Prop :=
  ∀ s : State, s.mode ≠ .initiator →
    let ccf := if s.clockConv = 0#3 then 8 else s.clockConv.toNat
    (∀ rest, s.live → s.events = .timer :: rest → s.timer.isSome = true →
      (s.sub = some .arbReleaseBusy → asserted (busCtrl s) lineBsy = false →
        step s = .next { s with
          notices := [], events := rest, sub := some .arbTimeoutBusy
          timer := some (s.params.delaySelto * s.selectTimeout.toNat * ccf) }) ∧
      (s.sub = some .arbTimeoutBusy →
        step s = .next { s with
          notices := [], events := rest, sub := some .arbTimeoutAbort, dataDrive := 0x00#8
          timer := some (s.params.delayAbort * ccf) }) ∧
      (s.sub = some .arbTimeoutAbort → asserted (busCtrl s) lineBsy = false →
        ∃ n, step s = .next { s with
          notices := n, events := rest, coarse := .idle, sub := none, timer := none
          istatus := s.istatus ||| (if s.params.selTimeoutCause = .dis then 0x20#8 else 0x08#8)
          irq := true, cmdCount := 0, mode := .disconnected, dmaDir := .off, drq := false
          ctrlDrive := 0#9, dataDrive := 0x00#8 }) ∧
      (s.sub = some .arbReleaseBusy ∨ s.sub = some .arbTimeoutAbort → asserted (busCtrl s) lineBsy = true →
        step s = .next { s with
          notices := [], events := rest, sub := some .arbDeskewWait
          timer := some s.params.delayDeskew })) ∧
    (s.sub = some .arbTimeoutBusy →
      seqStep .signal s =
        if asserted (busCtrl s) lineBsy then
          { s with sub := some .arbDeskewWait, timer := some s.params.delayDeskew }
        else s) ∧
    (∀ u ∈ [Sub.arbComplete, .arbAssertSel, .arbSetDest, .arbReleaseBusy, .arbTimeoutAbort, .arbDeskewWait],
      s.sub = some u → seqStep .signal s = s)

/-- The target answered (R257, R372, R373): the deskew delay's expiry releases the data lines and SEL and makes the
controller Initiator; with an empty FIFO the selection is held, otherwise the number of bytes to send is fixed, the
path is chosen by the command and, where the target requests already, taken at once. The second half says R372 and R373
of any invocation in `DISC_SEL_ARBITRATION_INIT`, so also of the one that ends the hold. -/
def Obligations.SelectionAnswered : Prop :=
  let begun (s : State) : State := { s with
    commandLength := s.fifo.length + if s.dmaCommand then s.tcounter.toNat else 0
    coarse := if s.command0.extractLsb' 0 7 = 0x41#7 then .discSelWaitReq else .discSelAtnWaitReq }
  (∀ (s : State) (rest : List Event), s.live → s.events = .timer :: rest → s.timer.isSome = true →
    s.mode ≠ .initiator → s.sub = some .arbDeskewWait → s.coarse = .discSelArbitrationInit →
    asserted s.envCtrl lineBsy = true →
    let connected : State := { s with
      notices := [], events := rest, timer := none, mode := .initiator, sub := none
      dataDrive := 0x00#8, ctrlDrive := s.ctrlDrive &&& ~~~lineSel }
    (s.fifo = [] → step s = .next connected) ∧
    (s.fifo ≠ [] → asserted (busCtrl s) lineReq = false → step s = .next (begun connected)) ∧
    (s.fifo ≠ [] → asserted (busCtrl s) lineReq = true →
      step s = .next (seqStep .signal (begun connected)))) ∧
  (∀ (s : State) (r : Reason), s.coarse = .discSelArbitrationInit → s.sub = none →
    asserted (busCtrl s) lineBsy = true →
    (s.fifo = [] → seqStep r s = s) ∧
    (s.fifo ≠ [] → asserted (busCtrl s) lineReq = false → seqStep r s = begun s) ∧
    (s.fifo ≠ [] → asserted (busCtrl s) lineReq = true → seqStep r s = seqStep .signal (begun s)))

/-- `DISC_SEL_ATN_WAIT_REQ` (R374) on any invocation while the target holds BSY: the message byte is sent on REQ in
Message-Out, with ATN released before it for SELATN; REQ in another phase ends the selection. -/
def Obligations.MessageByteStep : Prop :=
  ∀ (s : State) (r : Reason), s.coarse = .discSelAtnWaitReq → s.sub = none →
    asserted (busCtrl s) lineBsy = true →
    (asserted (busCtrl s) lineReq = false → seqStep r s = s) ∧
    (asserted (busCtrl s) lineReq = true → phaseOf (busCtrl s) ≠ 6#3 → seqStep r s = functionComplete s) ∧
    (asserted (busCtrl s) lineReq = true → phaseOf (busCtrl s) = 6#3 → s.fifo = [] → seqStep r s = s) ∧
    (∀ (b : Byte) (rest : List Byte), asserted (busCtrl s) lineReq = true → phaseOf (busCtrl s) = 6#3 →
      s.fifo = b :: rest →
      seqStep r s = { updateDrq { s with fifo := rest } with
        coarse := .discSelAtnSendByte, sub := some .sendWaitSettle, dataDrive := b
        ctrlDrive := (if s.command0.extractLsb' 0 7 = 0x42#7 then s.ctrlDrive &&& ~~~lineAtn
          else s.ctrlDrive) ||| lineAck
        timer := some s.syncPeriod.toNat })

/-- `DISC_SEL_WAIT_REQ` (R376) on any invocation while the target holds BSY: the next command byte is sent on REQ in
Command; otherwise, or when every byte is sent, the selection ends with its sequence step. -/
def Obligations.CommandByteStep : Prop :=
  ∀ (s : State) (r : Reason), s.coarse = .discSelWaitReq → s.sub = none →
    asserted (busCtrl s) lineBsy = true →
    (asserted (busCtrl s) lineReq = false → seqStep r s = s) ∧
    (asserted (busCtrl s) lineReq = true → phaseOf (busCtrl s) ≠ 2#3 ∨ s.commandLength = 0 →
      seqStep r s = functionComplete { s with
        seq := if s.commandLength = 0 then 4#3 else if s.seq = 3#3 then 3#3 else 2#3 }) ∧
    (asserted (busCtrl s) lineReq = true → phaseOf (busCtrl s) = 2#3 → s.commandLength ≠ 0 → s.fifo = [] →
      seqStep r s = s) ∧
    (∀ (b : Byte) (rest : List Byte), asserted (busCtrl s) lineReq = true → phaseOf (busCtrl s) = 2#3 →
      s.commandLength ≠ 0 → s.fifo = b :: rest →
      seqStep r s = { updateDrq { s with fifo := rest } with
        coarse := .discSelSendByte, sub := some .sendWaitSettle, dataDrive := b
        seq := if s.seq < 3#3 then 3#3 else s.seq
        ctrlDrive := s.ctrlDrive ||| lineAck, timer := some s.syncPeriod.toNat })

/-! ### The initiator commands -/

/-- XFER in an outbound phase while the target holds BSY (R390, R392, R260): an empty FIFO holds the transfer; otherwise
its head is driven with ACK, ATN released before the last byte of a Message-Out, and the settle delay armed. The second
half says the same of any invocation in `INIT_XFR`, where the last byte of a Message-Out is the one left in the FIFO
with no DMA or at terminal count. That ACK is asserted whether REQ is or not is what the pseudocode says, against a word
of R215 (assumption 20); that only the captured phase counts, not the one on the bus by then, is the pseudocode's too,
against words of R401 (assumption 26). -/
def Obligations.XferOutbound : Prop :=
  (∀ (s : State) (d : Bool) (p : PhaseCode), s.live → s.queueEmpty → s.mode = .initiator →
    asserted (busCtrl s) lineBsy = true → p = phaseOf (busCtrl s) → p ∈ [0#3, 2#3, 6#3] →
    let begun : State := updateDrq { accepted .xfer d s with
      xfrPhase := p, dmaDir := if d then .outward else .off, coarse := .initXfr, sub := none }
    (s.fifo = [] → exec (.xfer d) s = .next begun) ∧
    (∀ (b : Byte) (rest : List Byte), s.fifo = b :: rest →
      exec (.xfer d) s = .next { updateDrq { begun with fifo := rest } with
        coarse := .initXfrSendByte, sub := some .sendWaitSettle, dataDrive := b
        ctrlDrive := (if p = 6#3 ∧ rest = [] ∧ d = false then s.ctrlDrive &&& ~~~lineAtn
          else s.ctrlDrive) ||| lineAck
        timer := some s.syncPeriod.toNat })) ∧
  (∀ (s : State) (r : Reason), s.coarse = .initXfr → s.sub = none → asserted (busCtrl s) lineBsy = true →
    s.xfrPhase ∈ [0#3, 2#3, 6#3] →
    (s.fifo = [] → seqStep r s = s) ∧
    (∀ (b : Byte) (rest : List Byte), s.fifo = b :: rest →
      seqStep r s = { updateDrq { s with fifo := rest } with
        coarse := .initXfrSendByte, sub := some .sendWaitSettle, dataDrive := b
        ctrlDrive := (if s.xfrPhase = 6#3 ∧ rest = [] ∧ (s.dmaCommand = false ∨ s.tc = true) then
          s.ctrlDrive &&& ~~~lineAtn else s.ctrlDrive) ||| lineAck
        timer := some s.syncPeriod.toNat }))

/-- XFER in an inbound phase while the target holds BSY (R390, R392, R263, R264): a full FIFO holds the transfer;
otherwise it waits for REQ, or for the settle time if REQ is there, in the state that keeps ACK for the last byte of
a Message-In. The second half says the same of any invocation in `INIT_XFR`, where the last byte of a Message-In is any
with no DMA, or the one the counter has left. Only the captured phase counts, not the one on the bus by then
(assumption 26). -/
def Obligations.XferInbound : Prop :=
  (∀ (s : State) (d : Bool) (p : PhaseCode), s.live → s.queueEmpty → s.mode = .initiator →
    asserted (busCtrl s) lineBsy = true → p = phaseOf (busCtrl s) → p ∈ [1#3, 3#3, 7#3] →
    let begun : State := updateDrq { accepted .xfer d s with
      xfrPhase := p, dmaDir := if d then .inward else .off, coarse := .initXfr, sub := none }
    let next : Coarse :=
      if p = 7#3 ∧ (d = false ∨ s.tcount = 1#16) then .initXfrRecvByteNack else .initXfrRecvByteAck
    (s.fifo.length = 16 → exec (.xfer d) s = .next begun) ∧
    (s.fifo.length ≠ 16 → asserted (busCtrl s) lineReq = true →
      exec (.xfer d) s = .next { begun with
        coarse := next, sub := some .recvWaitSettle, timer := some s.syncPeriod.toNat }) ∧
    (s.fifo.length ≠ 16 → asserted (busCtrl s) lineReq = false →
      exec (.xfer d) s = .next { begun with coarse := next, sub := some .recvWaitReq1 })) ∧
  (∀ (s : State) (r : Reason), s.coarse = .initXfr → s.sub = none → asserted (busCtrl s) lineBsy = true →
    s.xfrPhase ∈ [1#3, 3#3, 7#3] →
    let next : Coarse :=
      if s.xfrPhase = 7#3 ∧ (s.dmaCommand = false ∨ s.tcounter = 1#16) then .initXfrRecvByteNack
      else .initXfrRecvByteAck
    (s.fifo.length = 16 → seqStep r s = s) ∧
    (s.fifo.length ≠ 16 → asserted (busCtrl s) lineReq = true →
      seqStep r s = { s with
        coarse := next, sub := some .recvWaitSettle, timer := some s.syncPeriod.toNat }) ∧
    (s.fifo.length ≠ 16 → asserted (busCtrl s) lineReq = false →
      seqStep r s = { s with coarse := next, sub := some .recvWaitReq1 }))

/-- XFER in the reserved phases 4 and 5 completes at once and moves nothing (R392, R401), and so does any invocation in
`INIT_XFR` with one of them captured. -/
def Obligations.XferReservedPhase : Prop :=
  (∀ (s : State) (d : Bool) (p : PhaseCode), s.live → s.queueEmpty → s.mode = .initiator →
    asserted (busCtrl s) lineBsy = true → p = phaseOf (busCtrl s) → p ∈ [4#3, 5#3] →
    ∃ n, exec (.xfer d) s = .next { s with
      notices := n
      command0 := Cmd.xfer.byte d, cmdCount := 1, dmaCommand := d
      tcounter := if d then s.tcount else s.tcounter
      tc := if d then false else s.tc
      xfrPhase := p, dmaDir := .off, drq := false, coarse := .idle, sub := none
      istatus := s.istatus ||| 0x08#8, irq := true }) ∧
  (∀ (s : State) (r : Reason), s.coarse = .initXfr → s.sub = none → asserted (busCtrl s) lineBsy = true →
    s.xfrPhase ∈ [4#3, 5#3] → seqStep r s = functionComplete s)

/-- `INIT_XFR_WAIT_REQ` on any invocation while the target holds BSY (R395, R400, R311): without REQ it holds; at REQ,
with the count or the FIFO exhausted or the phase changed, the transfer completes with bus service, or waits while
DMA-in bytes are not drained; at REQ otherwise the next byte is moved, by `INIT_XFR` (whose effect XferOutbound,
XferInbound and XferReservedPhase say). The waits themselves, on any invocation: each of the two completing states
holds while DMA-in bytes are not drained and completes otherwise (R399, R400). -/
def Obligations.TransferEndsAtRequest : Prop :=
  ∀ (s : State) (r : Reason), s.sub = none → asserted (busCtrl s) lineBsy = true →
    let ends : Prop :=
      phaseOf (busCtrl s) ≠ s.xfrPhase ∨
      (s.dmaCommand = true ∧ s.tc = true ∧ (s.dmaDir = .inward ∨ s.fifo = [])) ∨
      (s.dmaCommand = false ∧ (s.xfrPhase.getLsbD 0 = true ∨ s.fifo = []))
    (s.coarse = .initXfrWaitReq →
      (asserted (busCtrl s) lineReq = false → seqStep r s = s) ∧
      (asserted (busCtrl s) lineReq = true → ends →
        seqStep r s =
          (if s.dmaCommand = true ∧ s.dmaDir = .inward ∧ s.fifo ≠ [] then
            { s with coarse := .initXfrBusComplete }
          else busComplete s)) ∧
      (asserted (busCtrl s) lineReq = true → ¬ends →
        seqStep r s = seqStep .signal { s with coarse := .initXfr })) ∧
    (s.coarse = .initXfrBusComplete →
      seqStep r s = if s.dmaCommand = true ∧ s.dmaDir = .inward ∧ s.fifo ≠ [] then s else busComplete s) ∧
    (s.coarse = .initXfrFunctionComplete →
      seqStep r s = if s.dmaCommand = true ∧ s.dmaDir = .inward ∧ s.fifo ≠ [] then s else functionComplete s)

/-- ICCS while the target holds BSY receives the first byte, whatever the phase (R410, R263, R264). When the target drops
REQ after it ACK is released (R411); at the next REQ another phase than Message-In ends with bus service, Message-In
has the message byte received (R412); when the target drops REQ after that one the command completes with ACK still
asserted (R413). -/
def Obligations.IccsReceivesStatus : Prop :=
  ∀ s : State, asserted (busCtrl s) lineBsy = true →
    (∀ d, s.live → s.queueEmpty → s.mode = .initiator →
      (asserted (busCtrl s) lineReq = true →
        exec (.iccs d) s = .next { accepted .iccs d s with
          coarse := .initCptRecvByteAck, sub := some .recvWaitSettle, timer := some s.syncPeriod.toNat }) ∧
      (asserted (busCtrl s) lineReq = false →
        exec (.iccs d) s = .next { accepted .iccs d s with
          coarse := .initCptRecvByteAck, sub := some .recvWaitReq1 })) ∧
    (∀ r, s.coarse = .initCptRecvByteAck → s.sub = some .recvWaitReq0 → asserted (busCtrl s) lineReq = false →
      seqStep r s = { s with
        coarse := .initCptRecvWaitReq, sub := none, ctrlDrive := s.ctrlDrive &&& ~~~lineAck }) ∧
    (∀ r, s.coarse = .initCptRecvWaitReq → s.sub = none →
      (asserted (busCtrl s) lineReq = false → seqStep r s = s) ∧
      (asserted (busCtrl s) lineReq = true → phaseOf (busCtrl s) ≠ 7#3 → seqStep r s = busComplete s) ∧
      (asserted (busCtrl s) lineReq = true → phaseOf (busCtrl s) = 7#3 →
        seqStep r s = { s with
          coarse := .initCptRecvByteNack, sub := some .recvWaitSettle, timer := some s.syncPeriod.toNat })) ∧
    (∀ r, s.coarse = .initCptRecvByteNack → s.sub = some .recvWaitReq0 → asserted (busCtrl s) lineReq = false →
      ∃ n, seqStep r s = { s with
        notices := n, coarse := .idle, sub := none
        istatus := s.istatus ||| 0x08#8, irq := true, dmaDir := .off, drq := false })

/-- MSGACC clears the sequence step and releases ACK (R415, R416, R234): it waits while the target neither requests nor
leaves, ends with bus service at a REQ, and with a disconnect if BSY is gone. The second half says the wait and its end
at a later REQ of any invocation in `INIT_MSG_WAIT_REQ`. -/
def Obligations.MsgaccReleasesAck : Prop :=
  (∀ (s : State) (d : Bool), s.live → s.queueEmpty → s.mode = .initiator →
    let begun : State := { accepted .msgacc d s with
      seq := 0#3, ctrlDrive := s.ctrlDrive &&& ~~~lineAck, coarse := .initMsgWaitReq, sub := none }
    (asserted (busCtrl s) lineBsy = true → asserted (busCtrl s) lineReq = false →
      exec (.msgacc d) s = .next begun) ∧
    (asserted (busCtrl s) lineBsy = true → asserted (busCtrl s) lineReq = true →
      exec (.msgacc d) s = .next (busComplete begun)) ∧
    (asserted (busCtrl s) lineBsy = false →
      ∃ n, exec (.msgacc d) s = .next { begun with
        notices := n, coarse := .idle, sub := none, istatus := s.istatus ||| 0x20#8, irq := true
        ctrlDrive := 0#9, dataDrive := 0x00#8, cmdCount := 0, mode := .disconnected
        dmaDir := .off, drq := false })) ∧
  (∀ (s : State) (r : Reason), s.coarse = .initMsgWaitReq → s.sub = none →
    asserted (busCtrl s) lineBsy = true →
    seqStep r s = if asserted (busCtrl s) lineReq then busComplete s else s)

/-- PAD while the target holds BSY (R418, R419, R422, R260): with REQ it sends 0x00 with ACK, or waits the settle time of
a byte it will discard; without REQ it waits. The FIFO is not touched and DRQ is withdrawn. The other two parts say R419
and R422 of any invocation in the two waiting states: the wait without REQ, bus service at a REQ in another phase than
the captured one, the next pad byte at a REQ in that phase. -/
def Obligations.PadStarts : Prop :=
  (∀ (s : State) (d : Bool) (p : PhaseCode), s.live → s.queueEmpty → s.mode = .initiator →
    asserted (busCtrl s) lineBsy = true → p = phaseOf (busCtrl s) →
    let begun : State := updateDrq { accepted .pad d s with
      xfrPhase := p, dmaDir := .off, ctrlDrive := s.ctrlDrive &&& ~~~lineAck
      coarse := if p.getLsbD 0 then .initXfrRecvPadWaitReq else .initXfrSendPadWaitReq
      sub := none }
    (asserted (busCtrl s) lineReq = false → exec (.pad d) s = .next begun) ∧
    (asserted (busCtrl s) lineReq = true → p.getLsbD 0 = false →
      exec (.pad d) s = .next { begun with
        coarse := .initXfrSendPad, sub := some .sendWaitSettle, dataDrive := 0x00#8
        ctrlDrive := s.ctrlDrive ||| lineAck, timer := some s.syncPeriod.toNat }) ∧
    (asserted (busCtrl s) lineReq = true → p.getLsbD 0 = true →
      exec (.pad d) s = .next { begun with
        coarse := .initXfrRecvPad, sub := some .recvWaitSettle, timer := some s.syncPeriod.toNat })) ∧
  (∀ (s : State) (r : Reason), s.coarse = .initXfrSendPadWaitReq → s.sub = none →
    asserted (busCtrl s) lineBsy = true →
    (asserted (busCtrl s) lineReq = false → seqStep r s = s) ∧
    (asserted (busCtrl s) lineReq = true → phaseOf (busCtrl s) ≠ s.xfrPhase → seqStep r s = busComplete s) ∧
    (asserted (busCtrl s) lineReq = true → phaseOf (busCtrl s) = s.xfrPhase →
      seqStep r s = { s with
        coarse := .initXfrSendPad, sub := some .sendWaitSettle, dataDrive := 0x00#8
        ctrlDrive := s.ctrlDrive ||| lineAck, timer := some s.syncPeriod.toNat })) ∧
  (∀ (s : State) (r : Reason), s.coarse = .initXfrRecvPadWaitReq → s.sub = none →
    asserted (busCtrl s) lineBsy = true →
    (asserted (busCtrl s) lineReq = false → seqStep r s = s) ∧
    (asserted (busCtrl s) lineReq = true → phaseOf (busCtrl s) ≠ s.xfrPhase → seqStep r s = busComplete s) ∧
    (asserted (busCtrl s) lineReq = true → phaseOf (busCtrl s) = s.xfrPhase →
      seqStep r s = { s with
        coarse := .initXfrRecvPad, sub := some .recvWaitSettle, timer := some s.syncPeriod.toNat }))

/-! ### The handshake, the counter and the DMA port -/

/-- The send handshake in every coarse state (R261, R262): the settle time ends on its expiry only; then the controller
waits while REQ is held; when REQ falls the data lines and ACK are released and `Step(Signal)` runs the coarse state's
handler. What the handlers do there: a command byte is counted (R377); a message byte is counted, and SELATNSTOP ends
with sequence step 1 where SELATN goes on to the command bytes (R375); a transfer byte waits for the next REQ (R396);
a pad byte is counted, and completes at terminal count or waits for the next REQ (R420). That a count of 0 stays 0 is
assumption 16, and no rule. -/
def Obligations.SendHandshake : Prop :=
  ∀ s : State, asserted (busCtrl s) lineBsy = true →
    (s.sub = some .sendWaitSettle →
      seqStep .signal s = s ∧ seqStep .timeout s = seqStep .signal { s with sub := some .sendWaitReq0 }) ∧
    (s.sub = some .sendWaitReq0 → asserted (busCtrl s) lineReq = true → ∀ r, seqStep r s = s) ∧
    (s.sub = some .sendWaitReq0 → asserted (busCtrl s) lineReq = false → ∀ r,
      let released : State := { s with
        sub := none, dataDrive := 0x00#8, ctrlDrive := s.ctrlDrive &&& ~~~lineAck }
      seqStep r s = seqStep .signal released ∧
      (s.coarse = .discSelSendByte →
        seqStep r s = { released with
          coarse := .discSelWaitReq
          commandLength := s.commandLength - 1
          seq := if s.commandLength - 1 = 0 then 4#3 else s.seq }) ∧
      (s.coarse = .discSelAtnSendByte →
        seqStep r s =
          if s.command0.extractLsb' 0 7 = 0x43#7 then
            functionComplete { released with commandLength := s.commandLength - 1, seq := 1#3 }
          else { released with coarse := .discSelWaitReq, commandLength := s.commandLength - 1 }) ∧
      (s.coarse = .initXfrSendByte → seqStep r s = { released with coarse := .initXfrWaitReq }) ∧
      (s.coarse = .initXfrSendPad →
        let counted := decrementTcounter released
        seqStep r s =
          if counted.tc then functionComplete counted else { counted with coarse := .initXfrSendPadWaitReq }))

/-- The receive handshake in every coarse state (R264, R265, R266): at REQ the settle delay is armed; at its expiry the
data lines are latched into the FIFO, except in Transfer Pad, which discards them, and ACK is asserted; the controller
waits while REQ is held; when REQ falls `Step(Signal)` runs the coarse state's handler with ACK still asserted. What
the handlers do there: a transfer byte is counted and ACK released (R397); the last byte of a Message-In is counted, ACK
stays asserted, and the transfer completes once the DMA-in bytes are drained (R398, R399); a pad byte is counted and
ACK released, and it completes at terminal count or waits for the next REQ (R423). -/
def Obligations.ReceiveHandshake : Prop :=
  ∀ s : State, asserted (busCtrl s) lineBsy = true →
    (s.sub = some .recvWaitReq1 → ∀ r,
      seqStep r s =
        if asserted (busCtrl s) lineReq then
          { s with sub := some .recvWaitSettle, timer := some s.syncPeriod.toNat }
        else s) ∧
    (s.sub = some .recvWaitSettle →
      seqStep .signal s = s ∧
      (s.coarse ≠ .initXfrRecvPad →
        seqStep .timeout s = seqStep .signal { updateDrq { s with
            fifo := if s.fifo.length < 16 then s.fifo ++ [busData s] else s.fifo } with
          sub := some .recvWaitReq0, ctrlDrive := s.ctrlDrive ||| lineAck }) ∧
      (s.coarse = .initXfrRecvPad →
        seqStep .timeout s = seqStep .signal { s with
          sub := some .recvWaitReq0, ctrlDrive := s.ctrlDrive ||| lineAck })) ∧
    (s.sub = some .recvWaitReq0 → asserted (busCtrl s) lineReq = true → ∀ r, seqStep r s = s) ∧
    (s.sub = some .recvWaitReq0 → asserted (busCtrl s) lineReq = false → ∀ r,
      let counted : State := { decrementTcounter s with sub := none }
      seqStep r s = seqStep .signal { s with sub := none } ∧
      (s.coarse = .initXfrRecvByteAck →
        seqStep r s = { counted with
          coarse := .initXfrWaitReq, ctrlDrive := s.ctrlDrive &&& ~~~lineAck }) ∧
      (s.coarse = .initXfrRecvByteNack →
        seqStep r s =
          if s.dmaCommand = true ∧ s.dmaDir = .inward ∧ s.fifo ≠ [] then
            { counted with coarse := .initXfrFunctionComplete }
          else functionComplete counted) ∧
      (s.coarse = .initXfrRecvPad →
        let released : State := { counted with ctrlDrive := s.ctrlDrive &&& ~~~lineAck }
        seqStep r s =
          if counted.tc then functionComplete released
          else { released with coarse := .initXfrRecvPadWaitReq }))

/-- The counter (R120): a decrement under a DMA command subtracts one modulo 2^16 and sets TC exactly when it reaches 0;
from 0 it wraps to 0xFFFF without setting TC; under a command without the DMA bit nothing moves. -/
def Obligations.CounterDecrement : Prop :=
  ∀ s : State,
    (s.dmaCommand = false → decrementTcounter s = s) ∧
    (s.dmaCommand = true →
      ∃ n b, decrementTcounter s = { s with
        notices := n, drq := b
        tcounter := BitVec.ofNat 16 ((s.tcounter.toNat + 65535) % 65536)
        tc := if s.tcounter = 1#16 then true else s.tc })

/-- DMARD (R110): without a request, or against the direction, DmaWithoutRequest and nothing else. With one, the head is
popped and answered, DRQ re-derived, the counter not moved, and the sequencer run: nothing more while the byte
handshake waits; a transfer held on a full FIFO goes on to receive its next byte (R392, R264); the last drained byte of
a finished transfer completes it (R400, R399). -/
def Obligations.DmaReadPort : Prop :=
  ∀ s : State, s.live →
    (s.drq = false ∨ s.dmaDir ≠ .inward →
      exec .dmard s = .next { s with notices := [], fault := some .dmaWithoutRequest }) ∧
    (∀ (b : Byte) (rest : List Byte), s.drq = true → s.dmaDir = .inward → s.fifo = b :: rest →
      exec .dmard s = .next (answer b (seqStep .signal (updateDrq { s with notices := [], fifo := rest })))) ∧
    (∀ (b : Byte) (rest : List Byte), s.drq = true → s.dmaDir = .inward → s.fifo = b :: rest →
      asserted (busCtrl s) lineBsy = true → s.sub = some .recvWaitReq0 → asserted (busCtrl s) lineReq = true →
      exec .dmard s = .next { updateDrq { s with notices := [], fifo := rest } with readData := b }) ∧
    (∀ (b : Byte) (rest : List Byte), s.drq = true → s.dmaDir = .inward → s.fifo = b :: rest → rest.length = 15 →
      asserted (busCtrl s) lineBsy = true → s.sub = none → s.coarse = .initXfr → s.xfrPhase ∈ [1#3, 3#3, 7#3] →
      let resumed : State := { s with
        notices := [], fifo := rest, readData := b
        coarse :=
          if s.xfrPhase = 7#3 ∧ (s.dmaCommand = false ∨ s.tcounter = 1#16) then .initXfrRecvByteNack
          else .initXfrRecvByteAck }
      exec .dmard s = .next
        (if asserted (busCtrl s) lineReq then
          { resumed with sub := some .recvWaitSettle, timer := some s.syncPeriod.toNat }
        else { resumed with sub := some .recvWaitReq1 })) ∧
    (∀ b : Byte, s.drq = true → s.dmaDir = .inward → s.fifo = [b] →
      asserted (busCtrl s) lineBsy = true → s.sub = none →
      s.coarse = .initXfrBusComplete ∨ s.coarse = .initXfrFunctionComplete →
      ∃ n, exec .dmard s = .next { s with
        notices := n, fifo := [], readData := b, coarse := .idle, sub := none, dmaDir := .off, drq := false
        istatus := s.istatus ||| (if s.coarse = .initXfrBusComplete then 0x10#8 else 0x08#8), irq := true })

/-- DMAWR (R111): without a request, or against the direction, DmaWithoutRequest and nothing else. With one, the byte is
pushed, counted (R120), DRQ re-derived (R535) and the sequencer run: nothing more while it waits for its timer; and a
hold on an empty FIFO is over, the byte just written going out at once: in a transfer (R392), as the message byte
(R374) or the next command byte (R376) of a selection; a selection not yet begun fixes its length and its path, and takes it at once
where the target requests already (R372, R373). In a transfer ACK is asserted whether REQ is or not (assumption 20). -/
def Obligations.DmaWritePort : Prop :=
  ∀ (s : State) (v : Byte), s.live →
    (s.drq = false ∨ s.dmaDir ≠ .outward →
      exec (.dmawr v) s = .next { s with notices := [], fault := some .dmaWithoutRequest }) ∧
    (s.drq = true → s.dmaDir = .outward → s.fifo.length < 16 →
      exec (.dmawr v) s = .next (seqStep .signal
        (decrementTcounter (updateDrq { s with notices := [], fifo := s.fifo ++ [v] })))) ∧
    (s.drq = true → s.dmaDir = .outward → s.fifo.length < 16 → s.dmaCommand = true →
      s.mode ≠ .initiator ∨ asserted (busCtrl s) lineBsy = true →
      s.sub = some .arbComplete ∨ s.sub = some .sendWaitSettle →
      ∃ n, exec (.dmawr v) s = .next { s with
        notices := n, fifo := s.fifo ++ [v]
        tcounter := s.tcounter - 1#16
        tc := s.tc || s.tcounter == 1#16
        drq := !(s.tc || s.tcounter == 1#16) && decide (s.fifo.length + 1 < 16) }) ∧
    (s.drq = true → s.dmaDir = .outward → s.fifo = [] → s.dmaCommand = true → s.sub = none →
      asserted (busCtrl s) lineBsy = true →
      let tc' := s.tc || s.tcounter == 1#16
      let sent (n : List Notice) : State := { s with
        notices := n, fifo := [], tcounter := s.tcounter - 1#16, tc := tc', drq := !tc'
        sub := some .sendWaitSettle, dataDrive := v, timer := some s.syncPeriod.toNat }
      (s.coarse = .initXfr → s.xfrPhase ∈ [0#3, 2#3, 6#3] →
        ∃ n, exec (.dmawr v) s = .next { sent n with
          coarse := .initXfrSendByte
          ctrlDrive := (if s.xfrPhase = 6#3 ∧ tc' = true then s.ctrlDrive &&& ~~~lineAtn else s.ctrlDrive)
            ||| lineAck }) ∧
      (s.coarse = .discSelAtnWaitReq → asserted (busCtrl s) lineReq = true → phaseOf (busCtrl s) = 6#3 →
        ∃ n, exec (.dmawr v) s = .next { sent n with
          coarse := .discSelAtnSendByte
          ctrlDrive := (if s.command0.extractLsb' 0 7 = 0x42#7 then s.ctrlDrive &&& ~~~lineAtn else s.ctrlDrive)
            ||| lineAck }) ∧
      (s.coarse = .discSelWaitReq → asserted (busCtrl s) lineReq = true → phaseOf (busCtrl s) = 2#3 →
        s.commandLength ≠ 0 →
        ∃ n, exec (.dmawr v) s = .next { sent n with
          coarse := .discSelSendByte
          seq := if s.seq < 3#3 then 3#3 else s.seq
          ctrlDrive := s.ctrlDrive ||| lineAck }) ∧
      (s.coarse = .discSelArbitrationInit →
        ∃ n,
          let begun : State := { s with
            notices := n, fifo := [v], tcounter := s.tcounter - 1#16, tc := tc', drq := !tc'
            commandLength := 1 + (s.tcounter - 1#16).toNat
            coarse := if s.command0.extractLsb' 0 7 = 0x41#7 then .discSelWaitReq else .discSelAtnWaitReq }
          exec (.dmawr v) s = .next (if asserted (busCtrl s) lineReq then seqStep .signal begun else begun)))

/-- The FIFO law (R106): over any sequence of pushes and pops the length never exceeds 16, and the bytes given out are
the bytes taken in, in their order: what was held at the start and then every byte that was not dropped. -/
def Obligations.FifoOrderLaw : Prop :=
  ∀ (s : State) (uses : List FifoUse), s.fifo.length ≤ 16 →
    let r := uses.foldl FifoRun.use { state := s, taken := [], given := [] }
    r.state.fifo.length ≤ 16 ∧ s.fifo ++ r.taken = r.given ++ r.state.fifo

/-! ### Terminal nodes, the bus and the timer -/

/-- Function complete and bus complete (R310, R311): idle, the cause latched with IRQ, DMA off with DRQ withdrawn; the
command stays in its slot. -/
def Obligations.TerminalNodes : Prop :=
  ∀ s : State,
    (∃ n, functionComplete s = { s with
      notices := n, coarse := .idle, sub := none
      istatus := s.istatus ||| 0x08#8, irq := true, dmaDir := .off, drq := false }) ∧
    (∃ n, busComplete s = { s with
      notices := n, coarse := .idle, sub := none
      istatus := s.istatus ||| 0x10#8, irq := true, dmaDir := .off, drq := false })

/-- The disconnect check (R234, R235): any invocation of the sequencer in mode Initiator that sees BSY released ends the
connection, whatever the sequencer was doing: idle, DIS, every own line released, the queue emptied, mode
Disconnected, DMA off; nothing else changes. -/
def Obligations.DisconnectEndsConnection : Prop :=
  ∀ (s : State) (r : Reason), s.mode = .initiator → asserted (busCtrl s) lineBsy = false →
    ∃ n, seqStep r s = { s with
      notices := n, coarse := .idle, sub := none
      istatus := s.istatus ||| 0x20#8, irq := true
      ctrlDrive := 0#9, dataDrive := 0x00#8, cmdCount := 0, mode := .disconnected
      dmaDir := .off, drq := false }

/-- A change of the other devices' drive (R205): no notification if the control lines seen do not change, the bus-reset
response if RST is then asserted, `Step(Signal)` otherwise. -/
def Obligations.BusChangeNotifies : Prop :=
  ∀ (s : State) (c : Lines) (b : Byte) (rest : List Event), s.live → s.events = .bus c b :: rest →
    let t : State := { s with notices := [], events := rest, envCtrl := c, envData := b }
    (busCtrl t = busCtrl s → step s = .next t) ∧
    (busCtrl t ≠ busCtrl s → asserted (busCtrl t) lineRst = true → step s = .next (busReset t)) ∧
    (busCtrl t ≠ busCtrl s → asserted (busCtrl t) lineRst = false → step s = .next (seqStep .signal t))

/-- The bus-reset response (R573): in every state the soft reset, then SR unless `config[6]` is set; repeating it
changes nothing. -/
def Obligations.BusResetResponse : Prop :=
  ∀ s : State,
    (∃ n, busReset s = { s with
      notices := n
      cmdCount := 0, dmaCommand := false, testMode := false, mode := .disconnected
      coarse := .idle, sub := none, dmaDir := .off, commandLength := 0, drq := false
      timer := none, ctrlDrive := 0#9, dataDrive := 0x00#8
      istatus := if s.config.getLsbD 6 then s.istatus else s.istatus ||| 0x80#8
      irq := if s.config.getLsbD 6 then s.istatus != 0x00#8 else true }) ∧
    busReset (busReset s) = busReset s

/-- The timer (R211, R213): an armed timer's expiry disarms it and runs `Step(Timeout)`; with no timer armed there is no
expiry, so the event changes nothing (the model's reading of a disabled event, assumption 12). At IDLE, while the
connection holds or there is none, the sequencer does nothing for either reason (R236), so a timer armed by a step that
has since been left expires there without effect (R213). -/
def Obligations.TimerExpiry : Prop :=
  (∀ (s : State) (rest : List Event), s.live → s.events = .timer :: rest →
    (s.timer.isSome = true →
      step s = .next (seqStep .timeout { s with notices := [], events := rest, timer := none })) ∧
    (s.timer = none → step s = .next { s with notices := [], events := rest })) ∧
  (∀ (s : State) (r : Reason), s.coarse = .idle → s.sub = none →
    s.mode ≠ .initiator ∨ asserted (busCtrl s) lineBsy = true →
    seqStep r s = s ∧
    ∀ rest, s.live → s.events = .timer :: rest →
      step s = .next { s with notices := [], events := rest, timer := none })

/-! ### Whole-machine rules -/

/-- The state at power-on has the values the spec gives (R53, R570, R576, R577): the drawn fields are not named. -/
def Obligations.PowerOnValues : Prop :=
  let s := State.reset
  s.fault = none ∧ s.cmdCount = 0 ∧ s.dmaCommand = false ∧ s.fifo = [] ∧ s.config = 0x00#8 ∧ s.ownId = 0#3 ∧
  s.testMode = false ∧ s.config2 = 0x00#8 ∧ s.config3 = 0x00#8 ∧ s.clockConv = 2#3 ∧ s.syncPeriod = 5#5 ∧
  s.syncOffset = 0#4 ∧ s.ge = false ∧ s.pe = false ∧ s.tc = false ∧ s.istatus = 0x00#8 ∧ s.seq = 0#3 ∧
  s.mode = .disconnected ∧ s.coarse = .idle ∧ s.sub = none ∧ s.dmaDir = .off ∧ s.commandLength = 0 ∧
  s.irq = false ∧ s.drq = false ∧ s.timer = none ∧ s.ctrlDrive = 0#9 ∧ s.dataDrive = 0x00#8

/-- The invariant holds at power-on. -/
def Obligations.SoundAtReset : Prop := Sound State.reset

/-- Every step keeps the invariant: the FIFO's bound (R33), IRQ = (istatus != 0) (R531), DRQ's formula (R535), the lines
never driven (REQ, MSG, CD and IO by R203; that RST is not held between events either is assumption 13), mode Target
never entered (R438), the causes and the flag never set (R166, R521), the sequence step and `command_length` in range
(R43, R48), the sub-states on their coarse states (R233), arbitration exactly in mode Disconnected (R257), a timer
armed wherever one is waited for (R267), no reset byte queued (R301). -/
def Obligations.StepKeepsSound : Prop :=
  ∀ s t : State, Sound s → step s = .next t → Sound t

/-- No event ever raises BadState: every dispatch has a handler, no send finds the FIFO empty, every valid code has a
rule, and no chain of tail calls is cut off (R237, R260, R308). From every state, not only the reachable ones. -/
def Obligations.BadStateNeverRaised : Prop :=
  ∀ s t : State, step s = .next t → t.fault ≠ some .badState

/-- No chain of tail calls is longer than six invocations, so the bound in `seqStep` cuts nothing off and one event is the
whole chain (R10, R231). The number six is the model's own, read from the handlers (assumption 14), and stands in no
rule. -/
def Obligations.TailCallsEndWithinSix : Prop :=
  ∀ (n : Nat) (r : Reason) (s : State), stepChain (6 + n) r s = seqStep r s

/-- Mode Initiator is entered only by the answer to a selection, at the expiry of the deskew delay (R257, R44, R550). -/
def Obligations.InitiatorOnlyBySelection : Prop :=
  ∀ s t : State, step s = .next t → t.mode = .initiator → s.mode ≠ .initiator →
    s.sub = some .arbDeskewWait ∧ s.timer.isSome = true ∧ ∃ rest, s.events = .timer :: rest

/-- Latched causes and GE are cleared only by the interrupt-status read and the hard reset (R42, R521, R532): any other
step keeps them. -/
def Obligations.CausesPersist : Prop :=
  ∀ s t : State, step s = .next t →
    (∀ rest, s.events ≠ .access (.regRead 0x5#4) :: rest) →
    (∀ v rest, v &&& 0x7f#8 = 0x02#8 →
      s.events ≠ .access (.cmd v) :: rest ∧ s.events ≠ .access (.regWrite 0x3#4 v) :: rest) →
    s.istatus &&& t.istatus = s.istatus ∧ (s.ge = true → t.ge = true)

/-- The configuration and timing registers survive every event that is neither a register write at another offset than
0x2 and 0x3 nor a RESET byte (R53, R572, R593), in any state where no reset byte is queued; what those writes do is
said by CounterLoadWrites, PlainRegisterWrites, ConfigWriteLatches and VariantRegisters. That the parameters survive
every step is assumption 2. -/
def Obligations.ConfigurationSurvives : Prop :=
  ∀ s t : State, Sound s → step s = .next t →
    t.params = s.params ∧
    ((∀ off v rest, off ≠ 0x2#4 → off ≠ 0x3#4 → s.events ≠ .access (.regWrite off v) :: rest) →
      (∀ v rest, v &&& 0x7f#8 = 0x02#8 →
        s.events ≠ .access (.cmd v) :: rest ∧ s.events ≠ .access (.regWrite 0x3#4 v) :: rest) →
      t.config = s.config ∧ t.ownId = s.ownId ∧ t.config2 = s.config2 ∧ t.config3 = s.config3 ∧
      t.fifoAlign = s.fifoAlign ∧ t.testReg = s.testReg ∧ t.destId = s.destId ∧
      t.selectTimeout = s.selectTimeout ∧ t.clockConv = s.clockConv ∧ t.syncPeriod = s.syncPeriod ∧
      t.syncOffset = s.syncOffset ∧ t.tcount = s.tcount)

/-- R309's link of queue and sequencer, "cmd_count = 0 implies state = (IDLE, none)": every step from a state that has it
keeps it, but for an interrupt-status read that finds a cause while the sequencer is not idle; and that one, which pops
a command still running (R480, R320; assumption 15), breaks it on a run from power-on. The run: SELECT, nobody answers,
its six expiries latch DIS; SELECT again, with DIS unread; the read finds DIS and pops the second SELECT in the middle
of its arbitration. -/
def Obligations.PopWhileRunningBreaksR309 : Prop :=
  (∀ s t : State, (s.cmdCount = 0 → s.coarse = .idle ∧ s.sub = none) → step s = .next t →
    ((∀ rest, s.events ≠ .access (.regRead 0x5#4) :: rest) ∨ s.istatus = 0x00#8 ∨
      (s.coarse = .idle ∧ s.sub = none)) →
    t.cmdCount = 0 → t.coarse = .idle ∧ t.sub = none) ∧
  (∃ t : State,
    Sys2Proof.core.run 9 { State.reset with events :=
      [.access (.cmd 0x41#8), .timer, .timer, .timer, .timer, .timer, .timer, .access (.cmd 0x41#8),
        .access (.regRead 0x5#4)] } = .next t ∧
    t.cmdCount = 0 ∧ t.coarse = .discSelArbitrationInit ∧ t.sub = some .arbComplete)
end

