-- ==== Sys2Proof/Laws/State.lean ====
section
/-! SUPPORT. One lemma per field per basic update of State, so that no later proof unfolds a record update. -/

namespace Sys2Proof.Machine

/-! #### `driveCtrl` -/

@[simp] theorem driveCtrl_params (v m : Lines) (s : State) : (driveCtrl v m s).params = s.params := rfl
@[simp] theorem driveCtrl_command0 (v m : Lines) (s : State) : (driveCtrl v m s).command0 = s.command0 := rfl
@[simp] theorem driveCtrl_command1 (v m : Lines) (s : State) : (driveCtrl v m s).command1 = s.command1 := rfl
@[simp] theorem driveCtrl_cmdCount (v m : Lines) (s : State) : (driveCtrl v m s).cmdCount = s.cmdCount := rfl
@[simp] theorem driveCtrl_dmaCommand (v m : Lines) (s : State) : (driveCtrl v m s).dmaCommand = s.dmaCommand := rfl
@[simp] theorem driveCtrl_fifo (v m : Lines) (s : State) : (driveCtrl v m s).fifo = s.fifo := rfl
@[simp] theorem driveCtrl_config (v m : Lines) (s : State) : (driveCtrl v m s).config = s.config := rfl
@[simp] theorem driveCtrl_ownId (v m : Lines) (s : State) : (driveCtrl v m s).ownId = s.ownId := rfl
@[simp] theorem driveCtrl_testMode (v m : Lines) (s : State) : (driveCtrl v m s).testMode = s.testMode := rfl
@[simp] theorem driveCtrl_config2 (v m : Lines) (s : State) : (driveCtrl v m s).config2 = s.config2 := rfl
@[simp] theorem driveCtrl_config3 (v m : Lines) (s : State) : (driveCtrl v m s).config3 = s.config3 := rfl
@[simp] theorem driveCtrl_fifoAlign (v m : Lines) (s : State) : (driveCtrl v m s).fifoAlign = s.fifoAlign := rfl
@[simp] theorem driveCtrl_testReg (v m : Lines) (s : State) : (driveCtrl v m s).testReg = s.testReg := rfl
@[simp] theorem driveCtrl_destId (v m : Lines) (s : State) : (driveCtrl v m s).destId = s.destId := rfl
@[simp] theorem driveCtrl_selectTimeout (v m : Lines) (s : State) : (driveCtrl v m s).selectTimeout = s.selectTimeout := rfl
@[simp] theorem driveCtrl_clockConv (v m : Lines) (s : State) : (driveCtrl v m s).clockConv = s.clockConv := rfl
@[simp] theorem driveCtrl_syncPeriod (v m : Lines) (s : State) : (driveCtrl v m s).syncPeriod = s.syncPeriod := rfl
@[simp] theorem driveCtrl_syncOffset (v m : Lines) (s : State) : (driveCtrl v m s).syncOffset = s.syncOffset := rfl
@[simp] theorem driveCtrl_tcount (v m : Lines) (s : State) : (driveCtrl v m s).tcount = s.tcount := rfl
@[simp] theorem driveCtrl_tcounter (v m : Lines) (s : State) : (driveCtrl v m s).tcounter = s.tcounter := rfl
@[simp] theorem driveCtrl_ge (v m : Lines) (s : State) : (driveCtrl v m s).ge = s.ge := rfl
@[simp] theorem driveCtrl_pe (v m : Lines) (s : State) : (driveCtrl v m s).pe = s.pe := rfl
@[simp] theorem driveCtrl_tc (v m : Lines) (s : State) : (driveCtrl v m s).tc = s.tc := rfl
@[simp] theorem driveCtrl_istatus (v m : Lines) (s : State) : (driveCtrl v m s).istatus = s.istatus := rfl
@[simp] theorem driveCtrl_seq (v m : Lines) (s : State) : (driveCtrl v m s).seq = s.seq := rfl
@[simp] theorem driveCtrl_mode (v m : Lines) (s : State) : (driveCtrl v m s).mode = s.mode := rfl
@[simp] theorem driveCtrl_coarse (v m : Lines) (s : State) : (driveCtrl v m s).coarse = s.coarse := rfl
@[simp] theorem driveCtrl_sub (v m : Lines) (s : State) : (driveCtrl v m s).sub = s.sub := rfl
@[simp] theorem driveCtrl_xfrPhase (v m : Lines) (s : State) : (driveCtrl v m s).xfrPhase = s.xfrPhase := rfl
@[simp] theorem driveCtrl_dmaDir (v m : Lines) (s : State) : (driveCtrl v m s).dmaDir = s.dmaDir := rfl
@[simp] theorem driveCtrl_commandLength (v m : Lines) (s : State) : (driveCtrl v m s).commandLength = s.commandLength := rfl
@[simp] theorem driveCtrl_irq (v m : Lines) (s : State) : (driveCtrl v m s).irq = s.irq := rfl
@[simp] theorem driveCtrl_drq (v m : Lines) (s : State) : (driveCtrl v m s).drq = s.drq := rfl
@[simp] theorem driveCtrl_timer (v m : Lines) (s : State) : (driveCtrl v m s).timer = s.timer := rfl
@[simp] theorem driveCtrl_ctrlDrive (v m : Lines) (s : State) : (driveCtrl v m s).ctrlDrive = (s.ctrlDrive &&& ~~~m) ||| (v &&& m) := rfl
@[simp] theorem driveCtrl_dataDrive (v m : Lines) (s : State) : (driveCtrl v m s).dataDrive = s.dataDrive := rfl
@[simp] theorem driveCtrl_fault (v m : Lines) (s : State) : (driveCtrl v m s).fault = s.fault := rfl
@[simp] theorem driveCtrl_envCtrl (v m : Lines) (s : State) : (driveCtrl v m s).envCtrl = s.envCtrl := rfl
@[simp] theorem driveCtrl_envData (v m : Lines) (s : State) : (driveCtrl v m s).envData = s.envData := rfl
@[simp] theorem driveCtrl_readData (v m : Lines) (s : State) : (driveCtrl v m s).readData = s.readData := rfl
@[simp] theorem driveCtrl_notices (v m : Lines) (s : State) : (driveCtrl v m s).notices = s.notices := rfl
@[simp] theorem driveCtrl_draws (v m : Lines) (s : State) : (driveCtrl v m s).draws = s.draws := rfl
@[simp] theorem driveCtrl_events (v m : Lines) (s : State) : (driveCtrl v m s).events = s.events := rfl

/-! #### `driveData` -/

@[simp] theorem driveData_params (v : Byte) (s : State) : (driveData v s).params = s.params := rfl
@[simp] theorem driveData_command0 (v : Byte) (s : State) : (driveData v s).command0 = s.command0 := rfl
@[simp] theorem driveData_command1 (v : Byte) (s : State) : (driveData v s).command1 = s.command1 := rfl
@[simp] theorem driveData_cmdCount (v : Byte) (s : State) : (driveData v s).cmdCount = s.cmdCount := rfl
@[simp] theorem driveData_dmaCommand (v : Byte) (s : State) : (driveData v s).dmaCommand = s.dmaCommand := rfl
@[simp] theorem driveData_fifo (v : Byte) (s : State) : (driveData v s).fifo = s.fifo := rfl
@[simp] theorem driveData_config (v : Byte) (s : State) : (driveData v s).config = s.config := rfl
@[simp] theorem driveData_ownId (v : Byte) (s : State) : (driveData v s).ownId = s.ownId := rfl
@[simp] theorem driveData_testMode (v : Byte) (s : State) : (driveData v s).testMode = s.testMode := rfl
@[simp] theorem driveData_config2 (v : Byte) (s : State) : (driveData v s).config2 = s.config2 := rfl
@[simp] theorem driveData_config3 (v : Byte) (s : State) : (driveData v s).config3 = s.config3 := rfl
@[simp] theorem driveData_fifoAlign (v : Byte) (s : State) : (driveData v s).fifoAlign = s.fifoAlign := rfl
@[simp] theorem driveData_testReg (v : Byte) (s : State) : (driveData v s).testReg = s.testReg := rfl
@[simp] theorem driveData_destId (v : Byte) (s : State) : (driveData v s).destId = s.destId := rfl
@[simp] theorem driveData_selectTimeout (v : Byte) (s : State) : (driveData v s).selectTimeout = s.selectTimeout := rfl
@[simp] theorem driveData_clockConv (v : Byte) (s : State) : (driveData v s).clockConv = s.clockConv := rfl
@[simp] theorem driveData_syncPeriod (v : Byte) (s : State) : (driveData v s).syncPeriod = s.syncPeriod := rfl
@[simp] theorem driveData_syncOffset (v : Byte) (s : State) : (driveData v s).syncOffset = s.syncOffset := rfl
@[simp] theorem driveData_tcount (v : Byte) (s : State) : (driveData v s).tcount = s.tcount := rfl
@[simp] theorem driveData_tcounter (v : Byte) (s : State) : (driveData v s).tcounter = s.tcounter := rfl
@[simp] theorem driveData_ge (v : Byte) (s : State) : (driveData v s).ge = s.ge := rfl
@[simp] theorem driveData_pe (v : Byte) (s : State) : (driveData v s).pe = s.pe := rfl
@[simp] theorem driveData_tc (v : Byte) (s : State) : (driveData v s).tc = s.tc := rfl
@[simp] theorem driveData_istatus (v : Byte) (s : State) : (driveData v s).istatus = s.istatus := rfl
@[simp] theorem driveData_seq (v : Byte) (s : State) : (driveData v s).seq = s.seq := rfl
@[simp] theorem driveData_mode (v : Byte) (s : State) : (driveData v s).mode = s.mode := rfl
@[simp] theorem driveData_coarse (v : Byte) (s : State) : (driveData v s).coarse = s.coarse := rfl
@[simp] theorem driveData_sub (v : Byte) (s : State) : (driveData v s).sub = s.sub := rfl
@[simp] theorem driveData_xfrPhase (v : Byte) (s : State) : (driveData v s).xfrPhase = s.xfrPhase := rfl
@[simp] theorem driveData_dmaDir (v : Byte) (s : State) : (driveData v s).dmaDir = s.dmaDir := rfl
@[simp] theorem driveData_commandLength (v : Byte) (s : State) : (driveData v s).commandLength = s.commandLength := rfl
@[simp] theorem driveData_irq (v : Byte) (s : State) : (driveData v s).irq = s.irq := rfl
@[simp] theorem driveData_drq (v : Byte) (s : State) : (driveData v s).drq = s.drq := rfl
@[simp] theorem driveData_timer (v : Byte) (s : State) : (driveData v s).timer = s.timer := rfl
@[simp] theorem driveData_ctrlDrive (v : Byte) (s : State) : (driveData v s).ctrlDrive = s.ctrlDrive := rfl
@[simp] theorem driveData_dataDrive (v : Byte) (s : State) : (driveData v s).dataDrive = v := rfl
@[simp] theorem driveData_fault (v : Byte) (s : State) : (driveData v s).fault = s.fault := rfl
@[simp] theorem driveData_envCtrl (v : Byte) (s : State) : (driveData v s).envCtrl = s.envCtrl := rfl
@[simp] theorem driveData_envData (v : Byte) (s : State) : (driveData v s).envData = s.envData := rfl
@[simp] theorem driveData_readData (v : Byte) (s : State) : (driveData v s).readData = s.readData := rfl
@[simp] theorem driveData_notices (v : Byte) (s : State) : (driveData v s).notices = s.notices := rfl
@[simp] theorem driveData_draws (v : Byte) (s : State) : (driveData v s).draws = s.draws := rfl
@[simp] theorem driveData_events (v : Byte) (s : State) : (driveData v s).events = s.events := rfl

/-! #### `delay` -/

@[simp] theorem delay_params (n : Nat) (s : State) : (delay n s).params = s.params := rfl
@[simp] theorem delay_command0 (n : Nat) (s : State) : (delay n s).command0 = s.command0 := rfl
@[simp] theorem delay_command1 (n : Nat) (s : State) : (delay n s).command1 = s.command1 := rfl
@[simp] theorem delay_cmdCount (n : Nat) (s : State) : (delay n s).cmdCount = s.cmdCount := rfl
@[simp] theorem delay_dmaCommand (n : Nat) (s : State) : (delay n s).dmaCommand = s.dmaCommand := rfl
@[simp] theorem delay_fifo (n : Nat) (s : State) : (delay n s).fifo = s.fifo := rfl
@[simp] theorem delay_config (n : Nat) (s : State) : (delay n s).config = s.config := rfl
@[simp] theorem delay_ownId (n : Nat) (s : State) : (delay n s).ownId = s.ownId := rfl
@[simp] theorem delay_testMode (n : Nat) (s : State) : (delay n s).testMode = s.testMode := rfl
@[simp] theorem delay_config2 (n : Nat) (s : State) : (delay n s).config2 = s.config2 := rfl
@[simp] theorem delay_config3 (n : Nat) (s : State) : (delay n s).config3 = s.config3 := rfl
@[simp] theorem delay_fifoAlign (n : Nat) (s : State) : (delay n s).fifoAlign = s.fifoAlign := rfl
@[simp] theorem delay_testReg (n : Nat) (s : State) : (delay n s).testReg = s.testReg := rfl
@[simp] theorem delay_destId (n : Nat) (s : State) : (delay n s).destId = s.destId := rfl
@[simp] theorem delay_selectTimeout (n : Nat) (s : State) : (delay n s).selectTimeout = s.selectTimeout := rfl
@[simp] theorem delay_clockConv (n : Nat) (s : State) : (delay n s).clockConv = s.clockConv := rfl
@[simp] theorem delay_syncPeriod (n : Nat) (s : State) : (delay n s).syncPeriod = s.syncPeriod := rfl
@[simp] theorem delay_syncOffset (n : Nat) (s : State) : (delay n s).syncOffset = s.syncOffset := rfl
@[simp] theorem delay_tcount (n : Nat) (s : State) : (delay n s).tcount = s.tcount := rfl
@[simp] theorem delay_tcounter (n : Nat) (s : State) : (delay n s).tcounter = s.tcounter := rfl
@[simp] theorem delay_ge (n : Nat) (s : State) : (delay n s).ge = s.ge := rfl
@[simp] theorem delay_pe (n : Nat) (s : State) : (delay n s).pe = s.pe := rfl
@[simp] theorem delay_tc (n : Nat) (s : State) : (delay n s).tc = s.tc := rfl
@[simp] theorem delay_istatus (n : Nat) (s : State) : (delay n s).istatus = s.istatus := rfl
@[simp] theorem delay_seq (n : Nat) (s : State) : (delay n s).seq = s.seq := rfl
@[simp] theorem delay_mode (n : Nat) (s : State) : (delay n s).mode = s.mode := rfl
@[simp] theorem delay_coarse (n : Nat) (s : State) : (delay n s).coarse = s.coarse := rfl
@[simp] theorem delay_sub (n : Nat) (s : State) : (delay n s).sub = s.sub := rfl
@[simp] theorem delay_xfrPhase (n : Nat) (s : State) : (delay n s).xfrPhase = s.xfrPhase := rfl
@[simp] theorem delay_dmaDir (n : Nat) (s : State) : (delay n s).dmaDir = s.dmaDir := rfl
@[simp] theorem delay_commandLength (n : Nat) (s : State) : (delay n s).commandLength = s.commandLength := rfl
@[simp] theorem delay_irq (n : Nat) (s : State) : (delay n s).irq = s.irq := rfl
@[simp] theorem delay_drq (n : Nat) (s : State) : (delay n s).drq = s.drq := rfl
@[simp] theorem delay_timer (n : Nat) (s : State) : (delay n s).timer = some n := rfl
@[simp] theorem delay_ctrlDrive (n : Nat) (s : State) : (delay n s).ctrlDrive = s.ctrlDrive := rfl
@[simp] theorem delay_dataDrive (n : Nat) (s : State) : (delay n s).dataDrive = s.dataDrive := rfl
@[simp] theorem delay_fault (n : Nat) (s : State) : (delay n s).fault = s.fault := rfl
@[simp] theorem delay_envCtrl (n : Nat) (s : State) : (delay n s).envCtrl = s.envCtrl := rfl
@[simp] theorem delay_envData (n : Nat) (s : State) : (delay n s).envData = s.envData := rfl
@[simp] theorem delay_readData (n : Nat) (s : State) : (delay n s).readData = s.readData := rfl
@[simp] theorem delay_notices (n : Nat) (s : State) : (delay n s).notices = s.notices := rfl
@[simp] theorem delay_draws (n : Nat) (s : State) : (delay n s).draws = s.draws := rfl
@[simp] theorem delay_events (n : Nat) (s : State) : (delay n s).events = s.events := rfl

/-! #### `raise` -/

@[simp] theorem raise_params (k : Fault) (s : State) : (raise k s).params = s.params := rfl
@[simp] theorem raise_command0 (k : Fault) (s : State) : (raise k s).command0 = s.command0 := rfl
@[simp] theorem raise_command1 (k : Fault) (s : State) : (raise k s).command1 = s.command1 := rfl
@[simp] theorem raise_cmdCount (k : Fault) (s : State) : (raise k s).cmdCount = s.cmdCount := rfl
@[simp] theorem raise_dmaCommand (k : Fault) (s : State) : (raise k s).dmaCommand = s.dmaCommand := rfl
@[simp] theorem raise_fifo (k : Fault) (s : State) : (raise k s).fifo = s.fifo := rfl
@[simp] theorem raise_config (k : Fault) (s : State) : (raise k s).config = s.config := rfl
@[simp] theorem raise_ownId (k : Fault) (s : State) : (raise k s).ownId = s.ownId := rfl
@[simp] theorem raise_testMode (k : Fault) (s : State) : (raise k s).testMode = s.testMode := rfl
@[simp] theorem raise_config2 (k : Fault) (s : State) : (raise k s).config2 = s.config2 := rfl
@[simp] theorem raise_config3 (k : Fault) (s : State) : (raise k s).config3 = s.config3 := rfl
@[simp] theorem raise_fifoAlign (k : Fault) (s : State) : (raise k s).fifoAlign = s.fifoAlign := rfl
@[simp] theorem raise_testReg (k : Fault) (s : State) : (raise k s).testReg = s.testReg := rfl
@[simp] theorem raise_destId (k : Fault) (s : State) : (raise k s).destId = s.destId := rfl
@[simp] theorem raise_selectTimeout (k : Fault) (s : State) : (raise k s).selectTimeout = s.selectTimeout := rfl
@[simp] theorem raise_clockConv (k : Fault) (s : State) : (raise k s).clockConv = s.clockConv := rfl
@[simp] theorem raise_syncPeriod (k : Fault) (s : State) : (raise k s).syncPeriod = s.syncPeriod := rfl
@[simp] theorem raise_syncOffset (k : Fault) (s : State) : (raise k s).syncOffset = s.syncOffset := rfl
@[simp] theorem raise_tcount (k : Fault) (s : State) : (raise k s).tcount = s.tcount := rfl
@[simp] theorem raise_tcounter (k : Fault) (s : State) : (raise k s).tcounter = s.tcounter := rfl
@[simp] theorem raise_ge (k : Fault) (s : State) : (raise k s).ge = s.ge := rfl
@[simp] theorem raise_pe (k : Fault) (s : State) : (raise k s).pe = s.pe := rfl
@[simp] theorem raise_tc (k : Fault) (s : State) : (raise k s).tc = s.tc := rfl
@[simp] theorem raise_istatus (k : Fault) (s : State) : (raise k s).istatus = s.istatus := rfl
@[simp] theorem raise_seq (k : Fault) (s : State) : (raise k s).seq = s.seq := rfl
@[simp] theorem raise_mode (k : Fault) (s : State) : (raise k s).mode = s.mode := rfl
@[simp] theorem raise_coarse (k : Fault) (s : State) : (raise k s).coarse = s.coarse := rfl
@[simp] theorem raise_sub (k : Fault) (s : State) : (raise k s).sub = s.sub := rfl
@[simp] theorem raise_xfrPhase (k : Fault) (s : State) : (raise k s).xfrPhase = s.xfrPhase := rfl
@[simp] theorem raise_dmaDir (k : Fault) (s : State) : (raise k s).dmaDir = s.dmaDir := rfl
@[simp] theorem raise_commandLength (k : Fault) (s : State) : (raise k s).commandLength = s.commandLength := rfl
@[simp] theorem raise_irq (k : Fault) (s : State) : (raise k s).irq = s.irq := rfl
@[simp] theorem raise_drq (k : Fault) (s : State) : (raise k s).drq = s.drq := rfl
@[simp] theorem raise_timer (k : Fault) (s : State) : (raise k s).timer = s.timer := rfl
@[simp] theorem raise_ctrlDrive (k : Fault) (s : State) : (raise k s).ctrlDrive = s.ctrlDrive := rfl
@[simp] theorem raise_dataDrive (k : Fault) (s : State) : (raise k s).dataDrive = s.dataDrive := rfl
@[simp] theorem raise_fault (k : Fault) (s : State) : (raise k s).fault = some k := rfl
@[simp] theorem raise_envCtrl (k : Fault) (s : State) : (raise k s).envCtrl = s.envCtrl := rfl
@[simp] theorem raise_envData (k : Fault) (s : State) : (raise k s).envData = s.envData := rfl
@[simp] theorem raise_readData (k : Fault) (s : State) : (raise k s).readData = s.readData := rfl
@[simp] theorem raise_notices (k : Fault) (s : State) : (raise k s).notices = s.notices := rfl
@[simp] theorem raise_draws (k : Fault) (s : State) : (raise k s).draws = s.draws := rfl
@[simp] theorem raise_events (k : Fault) (s : State) : (raise k s).events = s.events := rfl

/-! #### `goSub` -/

@[simp] theorem goSub_params (u : Sub) (s : State) : (goSub u s).params = s.params := rfl
@[simp] theorem goSub_command0 (u : Sub) (s : State) : (goSub u s).command0 = s.command0 := rfl
@[simp] theorem goSub_command1 (u : Sub) (s : State) : (goSub u s).command1 = s.command1 := rfl
@[simp] theorem goSub_cmdCount (u : Sub) (s : State) : (goSub u s).cmdCount = s.cmdCount := rfl
@[simp] theorem goSub_dmaCommand (u : Sub) (s : State) : (goSub u s).dmaCommand = s.dmaCommand := rfl
@[simp] theorem goSub_fifo (u : Sub) (s : State) : (goSub u s).fifo = s.fifo := rfl
@[simp] theorem goSub_config (u : Sub) (s : State) : (goSub u s).config = s.config := rfl
@[simp] theorem goSub_ownId (u : Sub) (s : State) : (goSub u s).ownId = s.ownId := rfl
@[simp] theorem goSub_testMode (u : Sub) (s : State) : (goSub u s).testMode = s.testMode := rfl
@[simp] theorem goSub_config2 (u : Sub) (s : State) : (goSub u s).config2 = s.config2 := rfl
@[simp] theorem goSub_config3 (u : Sub) (s : State) : (goSub u s).config3 = s.config3 := rfl
@[simp] theorem goSub_fifoAlign (u : Sub) (s : State) : (goSub u s).fifoAlign = s.fifoAlign := rfl
@[simp] theorem goSub_testReg (u : Sub) (s : State) : (goSub u s).testReg = s.testReg := rfl
@[simp] theorem goSub_destId (u : Sub) (s : State) : (goSub u s).destId = s.destId := rfl
@[simp] theorem goSub_selectTimeout (u : Sub) (s : State) : (goSub u s).selectTimeout = s.selectTimeout := rfl
@[simp] theorem goSub_clockConv (u : Sub) (s : State) : (goSub u s).clockConv = s.clockConv := rfl
@[simp] theorem goSub_syncPeriod (u : Sub) (s : State) : (goSub u s).syncPeriod = s.syncPeriod := rfl
@[simp] theorem goSub_syncOffset (u : Sub) (s : State) : (goSub u s).syncOffset = s.syncOffset := rfl
@[simp] theorem goSub_tcount (u : Sub) (s : State) : (goSub u s).tcount = s.tcount := rfl
@[simp] theorem goSub_tcounter (u : Sub) (s : State) : (goSub u s).tcounter = s.tcounter := rfl
@[simp] theorem goSub_ge (u : Sub) (s : State) : (goSub u s).ge = s.ge := rfl
@[simp] theorem goSub_pe (u : Sub) (s : State) : (goSub u s).pe = s.pe := rfl
@[simp] theorem goSub_tc (u : Sub) (s : State) : (goSub u s).tc = s.tc := rfl
@[simp] theorem goSub_istatus (u : Sub) (s : State) : (goSub u s).istatus = s.istatus := rfl
@[simp] theorem goSub_seq (u : Sub) (s : State) : (goSub u s).seq = s.seq := rfl
@[simp] theorem goSub_mode (u : Sub) (s : State) : (goSub u s).mode = s.mode := rfl
@[simp] theorem goSub_coarse (u : Sub) (s : State) : (goSub u s).coarse = s.coarse := rfl
@[simp] theorem goSub_sub (u : Sub) (s : State) : (goSub u s).sub = some u := rfl
@[simp] theorem goSub_xfrPhase (u : Sub) (s : State) : (goSub u s).xfrPhase = s.xfrPhase := rfl
@[simp] theorem goSub_dmaDir (u : Sub) (s : State) : (goSub u s).dmaDir = s.dmaDir := rfl
@[simp] theorem goSub_commandLength (u : Sub) (s : State) : (goSub u s).commandLength = s.commandLength := rfl
@[simp] theorem goSub_irq (u : Sub) (s : State) : (goSub u s).irq = s.irq := rfl
@[simp] theorem goSub_drq (u : Sub) (s : State) : (goSub u s).drq = s.drq := rfl
@[simp] theorem goSub_timer (u : Sub) (s : State) : (goSub u s).timer = s.timer := rfl
@[simp] theorem goSub_ctrlDrive (u : Sub) (s : State) : (goSub u s).ctrlDrive = s.ctrlDrive := rfl
@[simp] theorem goSub_dataDrive (u : Sub) (s : State) : (goSub u s).dataDrive = s.dataDrive := rfl
@[simp] theorem goSub_fault (u : Sub) (s : State) : (goSub u s).fault = s.fault := rfl
@[simp] theorem goSub_envCtrl (u : Sub) (s : State) : (goSub u s).envCtrl = s.envCtrl := rfl
@[simp] theorem goSub_envData (u : Sub) (s : State) : (goSub u s).envData = s.envData := rfl
@[simp] theorem goSub_readData (u : Sub) (s : State) : (goSub u s).readData = s.readData := rfl
@[simp] theorem goSub_notices (u : Sub) (s : State) : (goSub u s).notices = s.notices := rfl
@[simp] theorem goSub_draws (u : Sub) (s : State) : (goSub u s).draws = s.draws := rfl
@[simp] theorem goSub_events (u : Sub) (s : State) : (goSub u s).events = s.events := rfl

/-! #### `endSub` -/

@[simp] theorem endSub_params (s : State) : (endSub s).params = s.params := rfl
@[simp] theorem endSub_command0 (s : State) : (endSub s).command0 = s.command0 := rfl
@[simp] theorem endSub_command1 (s : State) : (endSub s).command1 = s.command1 := rfl
@[simp] theorem endSub_cmdCount (s : State) : (endSub s).cmdCount = s.cmdCount := rfl
@[simp] theorem endSub_dmaCommand (s : State) : (endSub s).dmaCommand = s.dmaCommand := rfl
@[simp] theorem endSub_fifo (s : State) : (endSub s).fifo = s.fifo := rfl
@[simp] theorem endSub_config (s : State) : (endSub s).config = s.config := rfl
@[simp] theorem endSub_ownId (s : State) : (endSub s).ownId = s.ownId := rfl
@[simp] theorem endSub_testMode (s : State) : (endSub s).testMode = s.testMode := rfl
@[simp] theorem endSub_config2 (s : State) : (endSub s).config2 = s.config2 := rfl
@[simp] theorem endSub_config3 (s : State) : (endSub s).config3 = s.config3 := rfl
@[simp] theorem endSub_fifoAlign (s : State) : (endSub s).fifoAlign = s.fifoAlign := rfl
@[simp] theorem endSub_testReg (s : State) : (endSub s).testReg = s.testReg := rfl
@[simp] theorem endSub_destId (s : State) : (endSub s).destId = s.destId := rfl
@[simp] theorem endSub_selectTimeout (s : State) : (endSub s).selectTimeout = s.selectTimeout := rfl
@[simp] theorem endSub_clockConv (s : State) : (endSub s).clockConv = s.clockConv := rfl
@[simp] theorem endSub_syncPeriod (s : State) : (endSub s).syncPeriod = s.syncPeriod := rfl
@[simp] theorem endSub_syncOffset (s : State) : (endSub s).syncOffset = s.syncOffset := rfl
@[simp] theorem endSub_tcount (s : State) : (endSub s).tcount = s.tcount := rfl
@[simp] theorem endSub_tcounter (s : State) : (endSub s).tcounter = s.tcounter := rfl
@[simp] theorem endSub_ge (s : State) : (endSub s).ge = s.ge := rfl
@[simp] theorem endSub_pe (s : State) : (endSub s).pe = s.pe := rfl
@[simp] theorem endSub_tc (s : State) : (endSub s).tc = s.tc := rfl
@[simp] theorem endSub_istatus (s : State) : (endSub s).istatus = s.istatus := rfl
@[simp] theorem endSub_seq (s : State) : (endSub s).seq = s.seq := rfl
@[simp] theorem endSub_mode (s : State) : (endSub s).mode = s.mode := rfl
@[simp] theorem endSub_coarse (s : State) : (endSub s).coarse = s.coarse := rfl
@[simp] theorem endSub_sub (s : State) : (endSub s).sub = none := rfl
@[simp] theorem endSub_xfrPhase (s : State) : (endSub s).xfrPhase = s.xfrPhase := rfl
@[simp] theorem endSub_dmaDir (s : State) : (endSub s).dmaDir = s.dmaDir := rfl
@[simp] theorem endSub_commandLength (s : State) : (endSub s).commandLength = s.commandLength := rfl
@[simp] theorem endSub_irq (s : State) : (endSub s).irq = s.irq := rfl
@[simp] theorem endSub_drq (s : State) : (endSub s).drq = s.drq := rfl
@[simp] theorem endSub_timer (s : State) : (endSub s).timer = s.timer := rfl
@[simp] theorem endSub_ctrlDrive (s : State) : (endSub s).ctrlDrive = s.ctrlDrive := rfl
@[simp] theorem endSub_dataDrive (s : State) : (endSub s).dataDrive = s.dataDrive := rfl
@[simp] theorem endSub_fault (s : State) : (endSub s).fault = s.fault := rfl
@[simp] theorem endSub_envCtrl (s : State) : (endSub s).envCtrl = s.envCtrl := rfl
@[simp] theorem endSub_envData (s : State) : (endSub s).envData = s.envData := rfl
@[simp] theorem endSub_readData (s : State) : (endSub s).readData = s.readData := rfl
@[simp] theorem endSub_notices (s : State) : (endSub s).notices = s.notices := rfl
@[simp] theorem endSub_draws (s : State) : (endSub s).draws = s.draws := rfl
@[simp] theorem endSub_events (s : State) : (endSub s).events = s.events := rfl

/-! #### `goCoarse` -/

@[simp] theorem goCoarse_params (c : Coarse) (s : State) : (goCoarse c s).params = s.params := rfl
@[simp] theorem goCoarse_command0 (c : Coarse) (s : State) : (goCoarse c s).command0 = s.command0 := rfl
@[simp] theorem goCoarse_command1 (c : Coarse) (s : State) : (goCoarse c s).command1 = s.command1 := rfl
@[simp] theorem goCoarse_cmdCount (c : Coarse) (s : State) : (goCoarse c s).cmdCount = s.cmdCount := rfl
@[simp] theorem goCoarse_dmaCommand (c : Coarse) (s : State) : (goCoarse c s).dmaCommand = s.dmaCommand := rfl
@[simp] theorem goCoarse_fifo (c : Coarse) (s : State) : (goCoarse c s).fifo = s.fifo := rfl
@[simp] theorem goCoarse_config (c : Coarse) (s : State) : (goCoarse c s).config = s.config := rfl
@[simp] theorem goCoarse_ownId (c : Coarse) (s : State) : (goCoarse c s).ownId = s.ownId := rfl
@[simp] theorem goCoarse_testMode (c : Coarse) (s : State) : (goCoarse c s).testMode = s.testMode := rfl
@[simp] theorem goCoarse_config2 (c : Coarse) (s : State) : (goCoarse c s).config2 = s.config2 := rfl
@[simp] theorem goCoarse_config3 (c : Coarse) (s : State) : (goCoarse c s).config3 = s.config3 := rfl
@[simp] theorem goCoarse_fifoAlign (c : Coarse) (s : State) : (goCoarse c s).fifoAlign = s.fifoAlign := rfl
@[simp] theorem goCoarse_testReg (c : Coarse) (s : State) : (goCoarse c s).testReg = s.testReg := rfl
@[simp] theorem goCoarse_destId (c : Coarse) (s : State) : (goCoarse c s).destId = s.destId := rfl
@[simp] theorem goCoarse_selectTimeout (c : Coarse) (s : State) : (goCoarse c s).selectTimeout = s.selectTimeout := rfl
@[simp] theorem goCoarse_clockConv (c : Coarse) (s : State) : (goCoarse c s).clockConv = s.clockConv := rfl
@[simp] theorem goCoarse_syncPeriod (c : Coarse) (s : State) : (goCoarse c s).syncPeriod = s.syncPeriod := rfl
@[simp] theorem goCoarse_syncOffset (c : Coarse) (s : State) : (goCoarse c s).syncOffset = s.syncOffset := rfl
@[simp] theorem goCoarse_tcount (c : Coarse) (s : State) : (goCoarse c s).tcount = s.tcount := rfl
@[simp] theorem goCoarse_tcounter (c : Coarse) (s : State) : (goCoarse c s).tcounter = s.tcounter := rfl
@[simp] theorem goCoarse_ge (c : Coarse) (s : State) : (goCoarse c s).ge = s.ge := rfl
@[simp] theorem goCoarse_pe (c : Coarse) (s : State) : (goCoarse c s).pe = s.pe := rfl
@[simp] theorem goCoarse_tc (c : Coarse) (s : State) : (goCoarse c s).tc = s.tc := rfl
@[simp] theorem goCoarse_istatus (c : Coarse) (s : State) : (goCoarse c s).istatus = s.istatus := rfl
@[simp] theorem goCoarse_seq (c : Coarse) (s : State) : (goCoarse c s).seq = s.seq := rfl
@[simp] theorem goCoarse_mode (c : Coarse) (s : State) : (goCoarse c s).mode = s.mode := rfl
@[simp] theorem goCoarse_coarse (c : Coarse) (s : State) : (goCoarse c s).coarse = c := rfl
@[simp] theorem goCoarse_sub (c : Coarse) (s : State) : (goCoarse c s).sub = s.sub := rfl
@[simp] theorem goCoarse_xfrPhase (c : Coarse) (s : State) : (goCoarse c s).xfrPhase = s.xfrPhase := rfl
@[simp] theorem goCoarse_dmaDir (c : Coarse) (s : State) : (goCoarse c s).dmaDir = s.dmaDir := rfl
@[simp] theorem goCoarse_commandLength (c : Coarse) (s : State) : (goCoarse c s).commandLength = s.commandLength := rfl
@[simp] theorem goCoarse_irq (c : Coarse) (s : State) : (goCoarse c s).irq = s.irq := rfl
@[simp] theorem goCoarse_drq (c : Coarse) (s : State) : (goCoarse c s).drq = s.drq := rfl
@[simp] theorem goCoarse_timer (c : Coarse) (s : State) : (goCoarse c s).timer = s.timer := rfl
@[simp] theorem goCoarse_ctrlDrive (c : Coarse) (s : State) : (goCoarse c s).ctrlDrive = s.ctrlDrive := rfl
@[simp] theorem goCoarse_dataDrive (c : Coarse) (s : State) : (goCoarse c s).dataDrive = s.dataDrive := rfl
@[simp] theorem goCoarse_fault (c : Coarse) (s : State) : (goCoarse c s).fault = s.fault := rfl
@[simp] theorem goCoarse_envCtrl (c : Coarse) (s : State) : (goCoarse c s).envCtrl = s.envCtrl := rfl
@[simp] theorem goCoarse_envData (c : Coarse) (s : State) : (goCoarse c s).envData = s.envData := rfl
@[simp] theorem goCoarse_readData (c : Coarse) (s : State) : (goCoarse c s).readData = s.readData := rfl
@[simp] theorem goCoarse_notices (c : Coarse) (s : State) : (goCoarse c s).notices = s.notices := rfl
@[simp] theorem goCoarse_draws (c : Coarse) (s : State) : (goCoarse c s).draws = s.draws := rfl
@[simp] theorem goCoarse_events (c : Coarse) (s : State) : (goCoarse c s).events = s.events := rfl

/-! #### `goIdle` -/

@[simp] theorem goIdle_params (s : State) : (goIdle s).params = s.params := rfl
@[simp] theorem goIdle_command0 (s : State) : (goIdle s).command0 = s.command0 := rfl
@[simp] theorem goIdle_command1 (s : State) : (goIdle s).command1 = s.command1 := rfl
@[simp] theorem goIdle_cmdCount (s : State) : (goIdle s).cmdCount = s.cmdCount := rfl
@[simp] theorem goIdle_dmaCommand (s : State) : (goIdle s).dmaCommand = s.dmaCommand := rfl
@[simp] theorem goIdle_fifo (s : State) : (goIdle s).fifo = s.fifo := rfl
@[simp] theorem goIdle_config (s : State) : (goIdle s).config = s.config := rfl
@[simp] theorem goIdle_ownId (s : State) : (goIdle s).ownId = s.ownId := rfl
@[simp] theorem goIdle_testMode (s : State) : (goIdle s).testMode = s.testMode := rfl
@[simp] theorem goIdle_config2 (s : State) : (goIdle s).config2 = s.config2 := rfl
@[simp] theorem goIdle_config3 (s : State) : (goIdle s).config3 = s.config3 := rfl
@[simp] theorem goIdle_fifoAlign (s : State) : (goIdle s).fifoAlign = s.fifoAlign := rfl
@[simp] theorem goIdle_testReg (s : State) : (goIdle s).testReg = s.testReg := rfl
@[simp] theorem goIdle_destId (s : State) : (goIdle s).destId = s.destId := rfl
@[simp] theorem goIdle_selectTimeout (s : State) : (goIdle s).selectTimeout = s.selectTimeout := rfl
@[simp] theorem goIdle_clockConv (s : State) : (goIdle s).clockConv = s.clockConv := rfl
@[simp] theorem goIdle_syncPeriod (s : State) : (goIdle s).syncPeriod = s.syncPeriod := rfl
@[simp] theorem goIdle_syncOffset (s : State) : (goIdle s).syncOffset = s.syncOffset := rfl
@[simp] theorem goIdle_tcount (s : State) : (goIdle s).tcount = s.tcount := rfl
@[simp] theorem goIdle_tcounter (s : State) : (goIdle s).tcounter = s.tcounter := rfl
@[simp] theorem goIdle_ge (s : State) : (goIdle s).ge = s.ge := rfl
@[simp] theorem goIdle_pe (s : State) : (goIdle s).pe = s.pe := rfl
@[simp] theorem goIdle_tc (s : State) : (goIdle s).tc = s.tc := rfl
@[simp] theorem goIdle_istatus (s : State) : (goIdle s).istatus = s.istatus := rfl
@[simp] theorem goIdle_seq (s : State) : (goIdle s).seq = s.seq := rfl
@[simp] theorem goIdle_mode (s : State) : (goIdle s).mode = s.mode := rfl
@[simp] theorem goIdle_coarse (s : State) : (goIdle s).coarse = .idle := rfl
@[simp] theorem goIdle_sub (s : State) : (goIdle s).sub = none := rfl
@[simp] theorem goIdle_xfrPhase (s : State) : (goIdle s).xfrPhase = s.xfrPhase := rfl
@[simp] theorem goIdle_dmaDir (s : State) : (goIdle s).dmaDir = s.dmaDir := rfl
@[simp] theorem goIdle_commandLength (s : State) : (goIdle s).commandLength = s.commandLength := rfl
@[simp] theorem goIdle_irq (s : State) : (goIdle s).irq = s.irq := rfl
@[simp] theorem goIdle_drq (s : State) : (goIdle s).drq = s.drq := rfl
@[simp] theorem goIdle_timer (s : State) : (goIdle s).timer = s.timer := rfl
@[simp] theorem goIdle_ctrlDrive (s : State) : (goIdle s).ctrlDrive = s.ctrlDrive := rfl
@[simp] theorem goIdle_dataDrive (s : State) : (goIdle s).dataDrive = s.dataDrive := rfl
@[simp] theorem goIdle_fault (s : State) : (goIdle s).fault = s.fault := rfl
@[simp] theorem goIdle_envCtrl (s : State) : (goIdle s).envCtrl = s.envCtrl := rfl
@[simp] theorem goIdle_envData (s : State) : (goIdle s).envData = s.envData := rfl
@[simp] theorem goIdle_readData (s : State) : (goIdle s).readData = s.readData := rfl
@[simp] theorem goIdle_notices (s : State) : (goIdle s).notices = s.notices := rfl
@[simp] theorem goIdle_draws (s : State) : (goIdle s).draws = s.draws := rfl
@[simp] theorem goIdle_events (s : State) : (goIdle s).events = s.events := rfl

/-! #### `popLast` -/

@[simp] theorem popLast_params (s : State) : (popLast s).params = s.params := rfl
@[simp] theorem popLast_command0 (s : State) : (popLast s).command0 = s.command0 := rfl
@[simp] theorem popLast_command1 (s : State) : (popLast s).command1 = s.command1 := rfl
@[simp] theorem popLast_cmdCount (s : State) : (popLast s).cmdCount = 0 := rfl
@[simp] theorem popLast_dmaCommand (s : State) : (popLast s).dmaCommand = s.dmaCommand := rfl
@[simp] theorem popLast_fifo (s : State) : (popLast s).fifo = s.fifo := rfl
@[simp] theorem popLast_config (s : State) : (popLast s).config = s.config := rfl
@[simp] theorem popLast_ownId (s : State) : (popLast s).ownId = s.ownId := rfl
@[simp] theorem popLast_testMode (s : State) : (popLast s).testMode = s.testMode := rfl
@[simp] theorem popLast_config2 (s : State) : (popLast s).config2 = s.config2 := rfl
@[simp] theorem popLast_config3 (s : State) : (popLast s).config3 = s.config3 := rfl
@[simp] theorem popLast_fifoAlign (s : State) : (popLast s).fifoAlign = s.fifoAlign := rfl
@[simp] theorem popLast_testReg (s : State) : (popLast s).testReg = s.testReg := rfl
@[simp] theorem popLast_destId (s : State) : (popLast s).destId = s.destId := rfl
@[simp] theorem popLast_selectTimeout (s : State) : (popLast s).selectTimeout = s.selectTimeout := rfl
@[simp] theorem popLast_clockConv (s : State) : (popLast s).clockConv = s.clockConv := rfl
@[simp] theorem popLast_syncPeriod (s : State) : (popLast s).syncPeriod = s.syncPeriod := rfl
@[simp] theorem popLast_syncOffset (s : State) : (popLast s).syncOffset = s.syncOffset := rfl
@[simp] theorem popLast_tcount (s : State) : (popLast s).tcount = s.tcount := rfl
@[simp] theorem popLast_tcounter (s : State) : (popLast s).tcounter = s.tcounter := rfl
@[simp] theorem popLast_ge (s : State) : (popLast s).ge = s.ge := rfl
@[simp] theorem popLast_pe (s : State) : (popLast s).pe = s.pe := rfl
@[simp] theorem popLast_tc (s : State) : (popLast s).tc = s.tc := rfl
@[simp] theorem popLast_istatus (s : State) : (popLast s).istatus = s.istatus := rfl
@[simp] theorem popLast_seq (s : State) : (popLast s).seq = s.seq := rfl
@[simp] theorem popLast_mode (s : State) : (popLast s).mode = s.mode := rfl
@[simp] theorem popLast_coarse (s : State) : (popLast s).coarse = s.coarse := rfl
@[simp] theorem popLast_sub (s : State) : (popLast s).sub = s.sub := rfl
@[simp] theorem popLast_xfrPhase (s : State) : (popLast s).xfrPhase = s.xfrPhase := rfl
@[simp] theorem popLast_dmaDir (s : State) : (popLast s).dmaDir = s.dmaDir := rfl
@[simp] theorem popLast_commandLength (s : State) : (popLast s).commandLength = s.commandLength := rfl
@[simp] theorem popLast_irq (s : State) : (popLast s).irq = s.irq := rfl
@[simp] theorem popLast_drq (s : State) : (popLast s).drq = s.drq := rfl
@[simp] theorem popLast_timer (s : State) : (popLast s).timer = s.timer := rfl
@[simp] theorem popLast_ctrlDrive (s : State) : (popLast s).ctrlDrive = s.ctrlDrive := rfl
@[simp] theorem popLast_dataDrive (s : State) : (popLast s).dataDrive = s.dataDrive := rfl
@[simp] theorem popLast_fault (s : State) : (popLast s).fault = s.fault := rfl
@[simp] theorem popLast_envCtrl (s : State) : (popLast s).envCtrl = s.envCtrl := rfl
@[simp] theorem popLast_envData (s : State) : (popLast s).envData = s.envData := rfl
@[simp] theorem popLast_readData (s : State) : (popLast s).readData = s.readData := rfl
@[simp] theorem popLast_notices (s : State) : (popLast s).notices = s.notices := rfl
@[simp] theorem popLast_draws (s : State) : (popLast s).draws = s.draws := rfl
@[simp] theorem popLast_events (s : State) : (popLast s).events = s.events := rfl

/-! #### `updateIrq` -/

@[simp] theorem updateIrq_params (s : State) : (updateIrq s).params = s.params := rfl
@[simp] theorem updateIrq_command0 (s : State) : (updateIrq s).command0 = s.command0 := rfl
@[simp] theorem updateIrq_command1 (s : State) : (updateIrq s).command1 = s.command1 := rfl
@[simp] theorem updateIrq_cmdCount (s : State) : (updateIrq s).cmdCount = s.cmdCount := rfl
@[simp] theorem updateIrq_dmaCommand (s : State) : (updateIrq s).dmaCommand = s.dmaCommand := rfl
@[simp] theorem updateIrq_fifo (s : State) : (updateIrq s).fifo = s.fifo := rfl
@[simp] theorem updateIrq_config (s : State) : (updateIrq s).config = s.config := rfl
@[simp] theorem updateIrq_ownId (s : State) : (updateIrq s).ownId = s.ownId := rfl
@[simp] theorem updateIrq_testMode (s : State) : (updateIrq s).testMode = s.testMode := rfl
@[simp] theorem updateIrq_config2 (s : State) : (updateIrq s).config2 = s.config2 := rfl
@[simp] theorem updateIrq_config3 (s : State) : (updateIrq s).config3 = s.config3 := rfl
@[simp] theorem updateIrq_fifoAlign (s : State) : (updateIrq s).fifoAlign = s.fifoAlign := rfl
@[simp] theorem updateIrq_testReg (s : State) : (updateIrq s).testReg = s.testReg := rfl
@[simp] theorem updateIrq_destId (s : State) : (updateIrq s).destId = s.destId := rfl
@[simp] theorem updateIrq_selectTimeout (s : State) : (updateIrq s).selectTimeout = s.selectTimeout := rfl
@[simp] theorem updateIrq_clockConv (s : State) : (updateIrq s).clockConv = s.clockConv := rfl
@[simp] theorem updateIrq_syncPeriod (s : State) : (updateIrq s).syncPeriod = s.syncPeriod := rfl
@[simp] theorem updateIrq_syncOffset (s : State) : (updateIrq s).syncOffset = s.syncOffset := rfl
@[simp] theorem updateIrq_tcount (s : State) : (updateIrq s).tcount = s.tcount := rfl
@[simp] theorem updateIrq_tcounter (s : State) : (updateIrq s).tcounter = s.tcounter := rfl
@[simp] theorem updateIrq_ge (s : State) : (updateIrq s).ge = s.ge := rfl
@[simp] theorem updateIrq_pe (s : State) : (updateIrq s).pe = s.pe := rfl
@[simp] theorem updateIrq_tc (s : State) : (updateIrq s).tc = s.tc := rfl
@[simp] theorem updateIrq_istatus (s : State) : (updateIrq s).istatus = s.istatus := rfl
@[simp] theorem updateIrq_seq (s : State) : (updateIrq s).seq = s.seq := rfl
@[simp] theorem updateIrq_mode (s : State) : (updateIrq s).mode = s.mode := rfl
@[simp] theorem updateIrq_coarse (s : State) : (updateIrq s).coarse = s.coarse := rfl
@[simp] theorem updateIrq_sub (s : State) : (updateIrq s).sub = s.sub := rfl
@[simp] theorem updateIrq_xfrPhase (s : State) : (updateIrq s).xfrPhase = s.xfrPhase := rfl
@[simp] theorem updateIrq_dmaDir (s : State) : (updateIrq s).dmaDir = s.dmaDir := rfl
@[simp] theorem updateIrq_commandLength (s : State) : (updateIrq s).commandLength = s.commandLength := rfl
@[simp] theorem updateIrq_irq (s : State) : (updateIrq s).irq = (s.istatus != 0x00#8) := rfl
@[simp] theorem updateIrq_drq (s : State) : (updateIrq s).drq = s.drq := rfl
@[simp] theorem updateIrq_timer (s : State) : (updateIrq s).timer = s.timer := rfl
@[simp] theorem updateIrq_ctrlDrive (s : State) : (updateIrq s).ctrlDrive = s.ctrlDrive := rfl
@[simp] theorem updateIrq_dataDrive (s : State) : (updateIrq s).dataDrive = s.dataDrive := rfl
@[simp] theorem updateIrq_fault (s : State) : (updateIrq s).fault = s.fault := rfl
@[simp] theorem updateIrq_envCtrl (s : State) : (updateIrq s).envCtrl = s.envCtrl := rfl
@[simp] theorem updateIrq_envData (s : State) : (updateIrq s).envData = s.envData := rfl
@[simp] theorem updateIrq_readData (s : State) : (updateIrq s).readData = s.readData := rfl
@[simp] theorem updateIrq_draws (s : State) : (updateIrq s).draws = s.draws := rfl
@[simp] theorem updateIrq_events (s : State) : (updateIrq s).events = s.events := rfl

/-! #### `updateDrq` -/

@[simp] theorem updateDrq_params (s : State) : (updateDrq s).params = s.params := rfl
@[simp] theorem updateDrq_command0 (s : State) : (updateDrq s).command0 = s.command0 := rfl
@[simp] theorem updateDrq_command1 (s : State) : (updateDrq s).command1 = s.command1 := rfl
@[simp] theorem updateDrq_cmdCount (s : State) : (updateDrq s).cmdCount = s.cmdCount := rfl
@[simp] theorem updateDrq_dmaCommand (s : State) : (updateDrq s).dmaCommand = s.dmaCommand := rfl
@[simp] theorem updateDrq_fifo (s : State) : (updateDrq s).fifo = s.fifo := rfl
@[simp] theorem updateDrq_config (s : State) : (updateDrq s).config = s.config := rfl
@[simp] theorem updateDrq_ownId (s : State) : (updateDrq s).ownId = s.ownId := rfl
@[simp] theorem updateDrq_testMode (s : State) : (updateDrq s).testMode = s.testMode := rfl
@[simp] theorem updateDrq_config2 (s : State) : (updateDrq s).config2 = s.config2 := rfl
@[simp] theorem updateDrq_config3 (s : State) : (updateDrq s).config3 = s.config3 := rfl
@[simp] theorem updateDrq_fifoAlign (s : State) : (updateDrq s).fifoAlign = s.fifoAlign := rfl
@[simp] theorem updateDrq_testReg (s : State) : (updateDrq s).testReg = s.testReg := rfl
@[simp] theorem updateDrq_destId (s : State) : (updateDrq s).destId = s.destId := rfl
@[simp] theorem updateDrq_selectTimeout (s : State) : (updateDrq s).selectTimeout = s.selectTimeout := rfl
@[simp] theorem updateDrq_clockConv (s : State) : (updateDrq s).clockConv = s.clockConv := rfl
@[simp] theorem updateDrq_syncPeriod (s : State) : (updateDrq s).syncPeriod = s.syncPeriod := rfl
@[simp] theorem updateDrq_syncOffset (s : State) : (updateDrq s).syncOffset = s.syncOffset := rfl
@[simp] theorem updateDrq_tcount (s : State) : (updateDrq s).tcount = s.tcount := rfl
@[simp] theorem updateDrq_tcounter (s : State) : (updateDrq s).tcounter = s.tcounter := rfl
@[simp] theorem updateDrq_ge (s : State) : (updateDrq s).ge = s.ge := rfl
@[simp] theorem updateDrq_pe (s : State) : (updateDrq s).pe = s.pe := rfl
@[simp] theorem updateDrq_tc (s : State) : (updateDrq s).tc = s.tc := rfl
@[simp] theorem updateDrq_istatus (s : State) : (updateDrq s).istatus = s.istatus := rfl
@[simp] theorem updateDrq_seq (s : State) : (updateDrq s).seq = s.seq := rfl
@[simp] theorem updateDrq_mode (s : State) : (updateDrq s).mode = s.mode := rfl
@[simp] theorem updateDrq_coarse (s : State) : (updateDrq s).coarse = s.coarse := rfl
@[simp] theorem updateDrq_sub (s : State) : (updateDrq s).sub = s.sub := rfl
@[simp] theorem updateDrq_xfrPhase (s : State) : (updateDrq s).xfrPhase = s.xfrPhase := rfl
@[simp] theorem updateDrq_dmaDir (s : State) : (updateDrq s).dmaDir = s.dmaDir := rfl
@[simp] theorem updateDrq_commandLength (s : State) : (updateDrq s).commandLength = s.commandLength := rfl
@[simp] theorem updateDrq_irq (s : State) : (updateDrq s).irq = s.irq := rfl
@[simp] theorem updateDrq_drq (s : State) : (updateDrq s).drq = drqLevel s := rfl
@[simp] theorem updateDrq_timer (s : State) : (updateDrq s).timer = s.timer := rfl
@[simp] theorem updateDrq_ctrlDrive (s : State) : (updateDrq s).ctrlDrive = s.ctrlDrive := rfl
@[simp] theorem updateDrq_dataDrive (s : State) : (updateDrq s).dataDrive = s.dataDrive := rfl
@[simp] theorem updateDrq_fault (s : State) : (updateDrq s).fault = s.fault := rfl
@[simp] theorem updateDrq_envCtrl (s : State) : (updateDrq s).envCtrl = s.envCtrl := rfl
@[simp] theorem updateDrq_envData (s : State) : (updateDrq s).envData = s.envData := rfl
@[simp] theorem updateDrq_readData (s : State) : (updateDrq s).readData = s.readData := rfl
@[simp] theorem updateDrq_draws (s : State) : (updateDrq s).draws = s.draws := rfl
@[simp] theorem updateDrq_events (s : State) : (updateDrq s).events = s.events := rfl

/-! #### `reloaded` -/

@[simp] theorem reloaded_params (d : Bool) (s : State) : (reloaded d s).params = s.params := rfl
@[simp] theorem reloaded_command0 (d : Bool) (s : State) : (reloaded d s).command0 = s.command0 := rfl
@[simp] theorem reloaded_command1 (d : Bool) (s : State) : (reloaded d s).command1 = s.command1 := rfl
@[simp] theorem reloaded_cmdCount (d : Bool) (s : State) : (reloaded d s).cmdCount = s.cmdCount := rfl
@[simp] theorem reloaded_dmaCommand (d : Bool) (s : State) : (reloaded d s).dmaCommand = d := rfl
@[simp] theorem reloaded_fifo (d : Bool) (s : State) : (reloaded d s).fifo = s.fifo := rfl
@[simp] theorem reloaded_config (d : Bool) (s : State) : (reloaded d s).config = s.config := rfl
@[simp] theorem reloaded_ownId (d : Bool) (s : State) : (reloaded d s).ownId = s.ownId := rfl
@[simp] theorem reloaded_testMode (d : Bool) (s : State) : (reloaded d s).testMode = s.testMode := rfl
@[simp] theorem reloaded_config2 (d : Bool) (s : State) : (reloaded d s).config2 = s.config2 := rfl
@[simp] theorem reloaded_config3 (d : Bool) (s : State) : (reloaded d s).config3 = s.config3 := rfl
@[simp] theorem reloaded_fifoAlign (d : Bool) (s : State) : (reloaded d s).fifoAlign = s.fifoAlign := rfl
@[simp] theorem reloaded_testReg (d : Bool) (s : State) : (reloaded d s).testReg = s.testReg := rfl
@[simp] theorem reloaded_destId (d : Bool) (s : State) : (reloaded d s).destId = s.destId := rfl
@[simp] theorem reloaded_selectTimeout (d : Bool) (s : State) : (reloaded d s).selectTimeout = s.selectTimeout := rfl
@[simp] theorem reloaded_clockConv (d : Bool) (s : State) : (reloaded d s).clockConv = s.clockConv := rfl
@[simp] theorem reloaded_syncPeriod (d : Bool) (s : State) : (reloaded d s).syncPeriod = s.syncPeriod := rfl
@[simp] theorem reloaded_syncOffset (d : Bool) (s : State) : (reloaded d s).syncOffset = s.syncOffset := rfl
@[simp] theorem reloaded_tcount (d : Bool) (s : State) : (reloaded d s).tcount = s.tcount := rfl
@[simp] theorem reloaded_tcounter (d : Bool) (s : State) : (reloaded d s).tcounter = if d then s.tcount else s.tcounter := rfl
@[simp] theorem reloaded_ge (d : Bool) (s : State) : (reloaded d s).ge = s.ge := rfl
@[simp] theorem reloaded_pe (d : Bool) (s : State) : (reloaded d s).pe = s.pe := rfl
@[simp] theorem reloaded_tc (d : Bool) (s : State) : (reloaded d s).tc = if d then false else s.tc := rfl
@[simp] theorem reloaded_istatus (d : Bool) (s : State) : (reloaded d s).istatus = s.istatus := rfl
@[simp] theorem reloaded_seq (d : Bool) (s : State) : (reloaded d s).seq = s.seq := rfl
@[simp] theorem reloaded_mode (d : Bool) (s : State) : (reloaded d s).mode = s.mode := rfl
@[simp] theorem reloaded_coarse (d : Bool) (s : State) : (reloaded d s).coarse = s.coarse := rfl
@[simp] theorem reloaded_sub (d : Bool) (s : State) : (reloaded d s).sub = s.sub := rfl
@[simp] theorem reloaded_xfrPhase (d : Bool) (s : State) : (reloaded d s).xfrPhase = s.xfrPhase := rfl
@[simp] theorem reloaded_dmaDir (d : Bool) (s : State) : (reloaded d s).dmaDir = s.dmaDir := rfl
@[simp] theorem reloaded_commandLength (d : Bool) (s : State) : (reloaded d s).commandLength = s.commandLength := rfl
@[simp] theorem reloaded_irq (d : Bool) (s : State) : (reloaded d s).irq = s.irq := rfl
@[simp] theorem reloaded_drq (d : Bool) (s : State) : (reloaded d s).drq = s.drq := rfl
@[simp] theorem reloaded_timer (d : Bool) (s : State) : (reloaded d s).timer = s.timer := rfl
@[simp] theorem reloaded_ctrlDrive (d : Bool) (s : State) : (reloaded d s).ctrlDrive = s.ctrlDrive := rfl
@[simp] theorem reloaded_dataDrive (d : Bool) (s : State) : (reloaded d s).dataDrive = s.dataDrive := rfl
@[simp] theorem reloaded_fault (d : Bool) (s : State) : (reloaded d s).fault = s.fault := rfl
@[simp] theorem reloaded_envCtrl (d : Bool) (s : State) : (reloaded d s).envCtrl = s.envCtrl := rfl
@[simp] theorem reloaded_envData (d : Bool) (s : State) : (reloaded d s).envData = s.envData := rfl
@[simp] theorem reloaded_readData (d : Bool) (s : State) : (reloaded d s).readData = s.readData := rfl
@[simp] theorem reloaded_notices (d : Bool) (s : State) : (reloaded d s).notices = s.notices := rfl
@[simp] theorem reloaded_draws (d : Bool) (s : State) : (reloaded d s).draws = s.draws := rfl
@[simp] theorem reloaded_events (d : Bool) (s : State) : (reloaded d s).events = s.events := rfl

end Sys2Proof.Machine
end

