-- ==== Sys2Proof/Laws/Ops.lean ====
section
/-! SUPPORT. What each shared operation leaves in each field of State: one lemma per field per operation. -/

namespace Sys2Proof.Machine

/-! #### `setCause` -/

@[simp] theorem setCause_params (c : Byte) (s : State) : (setCause c s).params = s.params := by simp [setCause]
@[simp] theorem setCause_command0 (c : Byte) (s : State) : (setCause c s).command0 = s.command0 := by simp [setCause]
@[simp] theorem setCause_command1 (c : Byte) (s : State) : (setCause c s).command1 = s.command1 := by simp [setCause]
@[simp] theorem setCause_cmdCount (c : Byte) (s : State) : (setCause c s).cmdCount = s.cmdCount := by simp [setCause]
@[simp] theorem setCause_dmaCommand (c : Byte) (s : State) : (setCause c s).dmaCommand = s.dmaCommand := by simp [setCause]
@[simp] theorem setCause_fifo (c : Byte) (s : State) : (setCause c s).fifo = s.fifo := by simp [setCause]
@[simp] theorem setCause_config (c : Byte) (s : State) : (setCause c s).config = s.config := by simp [setCause]
@[simp] theorem setCause_ownId (c : Byte) (s : State) : (setCause c s).ownId = s.ownId := by simp [setCause]
@[simp] theorem setCause_testMode (c : Byte) (s : State) : (setCause c s).testMode = s.testMode := by simp [setCause]
@[simp] theorem setCause_config2 (c : Byte) (s : State) : (setCause c s).config2 = s.config2 := by simp [setCause]
@[simp] theorem setCause_config3 (c : Byte) (s : State) : (setCause c s).config3 = s.config3 := by simp [setCause]
@[simp] theorem setCause_fifoAlign (c : Byte) (s : State) : (setCause c s).fifoAlign = s.fifoAlign := by simp [setCause]
@[simp] theorem setCause_testReg (c : Byte) (s : State) : (setCause c s).testReg = s.testReg := by simp [setCause]
@[simp] theorem setCause_destId (c : Byte) (s : State) : (setCause c s).destId = s.destId := by simp [setCause]
@[simp] theorem setCause_selectTimeout (c : Byte) (s : State) : (setCause c s).selectTimeout = s.selectTimeout := by simp [setCause]
@[simp] theorem setCause_clockConv (c : Byte) (s : State) : (setCause c s).clockConv = s.clockConv := by simp [setCause]
@[simp] theorem setCause_syncPeriod (c : Byte) (s : State) : (setCause c s).syncPeriod = s.syncPeriod := by simp [setCause]
@[simp] theorem setCause_syncOffset (c : Byte) (s : State) : (setCause c s).syncOffset = s.syncOffset := by simp [setCause]
@[simp] theorem setCause_tcount (c : Byte) (s : State) : (setCause c s).tcount = s.tcount := by simp [setCause]
@[simp] theorem setCause_tcounter (c : Byte) (s : State) : (setCause c s).tcounter = s.tcounter := by simp [setCause]
@[simp] theorem setCause_ge (c : Byte) (s : State) : (setCause c s).ge = s.ge := by simp [setCause]
@[simp] theorem setCause_pe (c : Byte) (s : State) : (setCause c s).pe = s.pe := by simp [setCause]
@[simp] theorem setCause_tc (c : Byte) (s : State) : (setCause c s).tc = s.tc := by simp [setCause]
@[simp] theorem setCause_istatus (c : Byte) (s : State) : (setCause c s).istatus = s.istatus ||| c := by simp [setCause]
@[simp] theorem setCause_seq (c : Byte) (s : State) : (setCause c s).seq = s.seq := by simp [setCause]
@[simp] theorem setCause_mode (c : Byte) (s : State) : (setCause c s).mode = s.mode := by simp [setCause]
@[simp] theorem setCause_coarse (c : Byte) (s : State) : (setCause c s).coarse = s.coarse := by simp [setCause]
@[simp] theorem setCause_sub (c : Byte) (s : State) : (setCause c s).sub = s.sub := by simp [setCause]
@[simp] theorem setCause_xfrPhase (c : Byte) (s : State) : (setCause c s).xfrPhase = s.xfrPhase := by simp [setCause]
@[simp] theorem setCause_dmaDir (c : Byte) (s : State) : (setCause c s).dmaDir = s.dmaDir := by simp [setCause]
@[simp] theorem setCause_commandLength (c : Byte) (s : State) : (setCause c s).commandLength = s.commandLength := by simp [setCause]
@[simp] theorem setCause_irq (c : Byte) (s : State) : (setCause c s).irq = (s.istatus ||| c != 0x00#8) := by simp [setCause]
@[simp] theorem setCause_drq (c : Byte) (s : State) : (setCause c s).drq = s.drq := by simp [setCause]
@[simp] theorem setCause_timer (c : Byte) (s : State) : (setCause c s).timer = s.timer := by simp [setCause]
@[simp] theorem setCause_ctrlDrive (c : Byte) (s : State) : (setCause c s).ctrlDrive = s.ctrlDrive := by simp [setCause]
@[simp] theorem setCause_dataDrive (c : Byte) (s : State) : (setCause c s).dataDrive = s.dataDrive := by simp [setCause]
@[simp] theorem setCause_fault (c : Byte) (s : State) : (setCause c s).fault = s.fault := by simp [setCause]
@[simp] theorem setCause_envCtrl (c : Byte) (s : State) : (setCause c s).envCtrl = s.envCtrl := by simp [setCause]
@[simp] theorem setCause_envData (c : Byte) (s : State) : (setCause c s).envData = s.envData := by simp [setCause]
@[simp] theorem setCause_readData (c : Byte) (s : State) : (setCause c s).readData = s.readData := by simp [setCause]
@[simp] theorem setCause_draws (c : Byte) (s : State) : (setCause c s).draws = s.draws := by simp [setCause]
@[simp] theorem setCause_events (c : Byte) (s : State) : (setCause c s).events = s.events := by simp [setCause]

/-! #### `fifoPush` -/

@[simp] theorem fifoPush_params (b : Byte) (s : State) : (fifoPush b s).params = s.params := by simp [fifoPush]
@[simp] theorem fifoPush_command0 (b : Byte) (s : State) : (fifoPush b s).command0 = s.command0 := by simp [fifoPush]
@[simp] theorem fifoPush_command1 (b : Byte) (s : State) : (fifoPush b s).command1 = s.command1 := by simp [fifoPush]
@[simp] theorem fifoPush_cmdCount (b : Byte) (s : State) : (fifoPush b s).cmdCount = s.cmdCount := by simp [fifoPush]
@[simp] theorem fifoPush_dmaCommand (b : Byte) (s : State) : (fifoPush b s).dmaCommand = s.dmaCommand := by simp [fifoPush]
@[simp] theorem fifoPush_fifo (b : Byte) (s : State) : (fifoPush b s).fifo = if s.fifo.length < Config.fifoDepth then s.fifo ++ [b] else s.fifo := by simp [fifoPush]
@[simp] theorem fifoPush_config (b : Byte) (s : State) : (fifoPush b s).config = s.config := by simp [fifoPush]
@[simp] theorem fifoPush_ownId (b : Byte) (s : State) : (fifoPush b s).ownId = s.ownId := by simp [fifoPush]
@[simp] theorem fifoPush_testMode (b : Byte) (s : State) : (fifoPush b s).testMode = s.testMode := by simp [fifoPush]
@[simp] theorem fifoPush_config2 (b : Byte) (s : State) : (fifoPush b s).config2 = s.config2 := by simp [fifoPush]
@[simp] theorem fifoPush_config3 (b : Byte) (s : State) : (fifoPush b s).config3 = s.config3 := by simp [fifoPush]
@[simp] theorem fifoPush_fifoAlign (b : Byte) (s : State) : (fifoPush b s).fifoAlign = s.fifoAlign := by simp [fifoPush]
@[simp] theorem fifoPush_testReg (b : Byte) (s : State) : (fifoPush b s).testReg = s.testReg := by simp [fifoPush]
@[simp] theorem fifoPush_destId (b : Byte) (s : State) : (fifoPush b s).destId = s.destId := by simp [fifoPush]
@[simp] theorem fifoPush_selectTimeout (b : Byte) (s : State) : (fifoPush b s).selectTimeout = s.selectTimeout := by simp [fifoPush]
@[simp] theorem fifoPush_clockConv (b : Byte) (s : State) : (fifoPush b s).clockConv = s.clockConv := by simp [fifoPush]
@[simp] theorem fifoPush_syncPeriod (b : Byte) (s : State) : (fifoPush b s).syncPeriod = s.syncPeriod := by simp [fifoPush]
@[simp] theorem fifoPush_syncOffset (b : Byte) (s : State) : (fifoPush b s).syncOffset = s.syncOffset := by simp [fifoPush]
@[simp] theorem fifoPush_tcount (b : Byte) (s : State) : (fifoPush b s).tcount = s.tcount := by simp [fifoPush]
@[simp] theorem fifoPush_tcounter (b : Byte) (s : State) : (fifoPush b s).tcounter = s.tcounter := by simp [fifoPush]
@[simp] theorem fifoPush_ge (b : Byte) (s : State) : (fifoPush b s).ge = s.ge := by simp [fifoPush]
@[simp] theorem fifoPush_pe (b : Byte) (s : State) : (fifoPush b s).pe = s.pe := by simp [fifoPush]
@[simp] theorem fifoPush_tc (b : Byte) (s : State) : (fifoPush b s).tc = s.tc := by simp [fifoPush]
@[simp] theorem fifoPush_istatus (b : Byte) (s : State) : (fifoPush b s).istatus = s.istatus := by simp [fifoPush]
@[simp] theorem fifoPush_seq (b : Byte) (s : State) : (fifoPush b s).seq = s.seq := by simp [fifoPush]
@[simp] theorem fifoPush_mode (b : Byte) (s : State) : (fifoPush b s).mode = s.mode := by simp [fifoPush]
@[simp] theorem fifoPush_coarse (b : Byte) (s : State) : (fifoPush b s).coarse = s.coarse := by simp [fifoPush]
@[simp] theorem fifoPush_sub (b : Byte) (s : State) : (fifoPush b s).sub = s.sub := by simp [fifoPush]
@[simp] theorem fifoPush_xfrPhase (b : Byte) (s : State) : (fifoPush b s).xfrPhase = s.xfrPhase := by simp [fifoPush]
@[simp] theorem fifoPush_dmaDir (b : Byte) (s : State) : (fifoPush b s).dmaDir = s.dmaDir := by simp [fifoPush]
@[simp] theorem fifoPush_commandLength (b : Byte) (s : State) : (fifoPush b s).commandLength = s.commandLength := by simp [fifoPush]
@[simp] theorem fifoPush_irq (b : Byte) (s : State) : (fifoPush b s).irq = s.irq := by simp [fifoPush]
@[simp] theorem fifoPush_timer (b : Byte) (s : State) : (fifoPush b s).timer = s.timer := by simp [fifoPush]
@[simp] theorem fifoPush_ctrlDrive (b : Byte) (s : State) : (fifoPush b s).ctrlDrive = s.ctrlDrive := by simp [fifoPush]
@[simp] theorem fifoPush_dataDrive (b : Byte) (s : State) : (fifoPush b s).dataDrive = s.dataDrive := by simp [fifoPush]
@[simp] theorem fifoPush_fault (b : Byte) (s : State) : (fifoPush b s).fault = s.fault := by simp [fifoPush]
@[simp] theorem fifoPush_envCtrl (b : Byte) (s : State) : (fifoPush b s).envCtrl = s.envCtrl := by simp [fifoPush]
@[simp] theorem fifoPush_envData (b : Byte) (s : State) : (fifoPush b s).envData = s.envData := by simp [fifoPush]
@[simp] theorem fifoPush_readData (b : Byte) (s : State) : (fifoPush b s).readData = s.readData := by simp [fifoPush]
@[simp] theorem fifoPush_draws (b : Byte) (s : State) : (fifoPush b s).draws = s.draws := by simp [fifoPush]
@[simp] theorem fifoPush_events (b : Byte) (s : State) : (fifoPush b s).events = s.events := by simp [fifoPush]

/-! #### `fifoPop` -/

@[simp] theorem fifoPop_params (s : State) : (fifoPop s).params = s.params := by simp [fifoPop]
@[simp] theorem fifoPop_command0 (s : State) : (fifoPop s).command0 = s.command0 := by simp [fifoPop]
@[simp] theorem fifoPop_command1 (s : State) : (fifoPop s).command1 = s.command1 := by simp [fifoPop]
@[simp] theorem fifoPop_cmdCount (s : State) : (fifoPop s).cmdCount = s.cmdCount := by simp [fifoPop]
@[simp] theorem fifoPop_dmaCommand (s : State) : (fifoPop s).dmaCommand = s.dmaCommand := by simp [fifoPop]
@[simp] theorem fifoPop_fifo (s : State) : (fifoPop s).fifo = s.fifo.tail := by simp [fifoPop]
@[simp] theorem fifoPop_config (s : State) : (fifoPop s).config = s.config := by simp [fifoPop]
@[simp] theorem fifoPop_ownId (s : State) : (fifoPop s).ownId = s.ownId := by simp [fifoPop]
@[simp] theorem fifoPop_testMode (s : State) : (fifoPop s).testMode = s.testMode := by simp [fifoPop]
@[simp] theorem fifoPop_config2 (s : State) : (fifoPop s).config2 = s.config2 := by simp [fifoPop]
@[simp] theorem fifoPop_config3 (s : State) : (fifoPop s).config3 = s.config3 := by simp [fifoPop]
@[simp] theorem fifoPop_fifoAlign (s : State) : (fifoPop s).fifoAlign = s.fifoAlign := by simp [fifoPop]
@[simp] theorem fifoPop_testReg (s : State) : (fifoPop s).testReg = s.testReg := by simp [fifoPop]
@[simp] theorem fifoPop_destId (s : State) : (fifoPop s).destId = s.destId := by simp [fifoPop]
@[simp] theorem fifoPop_selectTimeout (s : State) : (fifoPop s).selectTimeout = s.selectTimeout := by simp [fifoPop]
@[simp] theorem fifoPop_clockConv (s : State) : (fifoPop s).clockConv = s.clockConv := by simp [fifoPop]
@[simp] theorem fifoPop_syncPeriod (s : State) : (fifoPop s).syncPeriod = s.syncPeriod := by simp [fifoPop]
@[simp] theorem fifoPop_syncOffset (s : State) : (fifoPop s).syncOffset = s.syncOffset := by simp [fifoPop]
@[simp] theorem fifoPop_tcount (s : State) : (fifoPop s).tcount = s.tcount := by simp [fifoPop]
@[simp] theorem fifoPop_tcounter (s : State) : (fifoPop s).tcounter = s.tcounter := by simp [fifoPop]
@[simp] theorem fifoPop_ge (s : State) : (fifoPop s).ge = s.ge := by simp [fifoPop]
@[simp] theorem fifoPop_pe (s : State) : (fifoPop s).pe = s.pe := by simp [fifoPop]
@[simp] theorem fifoPop_tc (s : State) : (fifoPop s).tc = s.tc := by simp [fifoPop]
@[simp] theorem fifoPop_istatus (s : State) : (fifoPop s).istatus = s.istatus := by simp [fifoPop]
@[simp] theorem fifoPop_seq (s : State) : (fifoPop s).seq = s.seq := by simp [fifoPop]
@[simp] theorem fifoPop_mode (s : State) : (fifoPop s).mode = s.mode := by simp [fifoPop]
@[simp] theorem fifoPop_coarse (s : State) : (fifoPop s).coarse = s.coarse := by simp [fifoPop]
@[simp] theorem fifoPop_sub (s : State) : (fifoPop s).sub = s.sub := by simp [fifoPop]
@[simp] theorem fifoPop_xfrPhase (s : State) : (fifoPop s).xfrPhase = s.xfrPhase := by simp [fifoPop]
@[simp] theorem fifoPop_dmaDir (s : State) : (fifoPop s).dmaDir = s.dmaDir := by simp [fifoPop]
@[simp] theorem fifoPop_commandLength (s : State) : (fifoPop s).commandLength = s.commandLength := by simp [fifoPop]
@[simp] theorem fifoPop_irq (s : State) : (fifoPop s).irq = s.irq := by simp [fifoPop]
@[simp] theorem fifoPop_timer (s : State) : (fifoPop s).timer = s.timer := by simp [fifoPop]
@[simp] theorem fifoPop_ctrlDrive (s : State) : (fifoPop s).ctrlDrive = s.ctrlDrive := by simp [fifoPop]
@[simp] theorem fifoPop_dataDrive (s : State) : (fifoPop s).dataDrive = s.dataDrive := by simp [fifoPop]
@[simp] theorem fifoPop_fault (s : State) : (fifoPop s).fault = s.fault := by simp [fifoPop]
@[simp] theorem fifoPop_envCtrl (s : State) : (fifoPop s).envCtrl = s.envCtrl := by simp [fifoPop]
@[simp] theorem fifoPop_envData (s : State) : (fifoPop s).envData = s.envData := by simp [fifoPop]
@[simp] theorem fifoPop_readData (s : State) : (fifoPop s).readData = s.readData := by simp [fifoPop]
@[simp] theorem fifoPop_draws (s : State) : (fifoPop s).draws = if s.fifo.isEmpty then s.draws + 1 else s.draws := by simp [fifoPop]
@[simp] theorem fifoPop_events (s : State) : (fifoPop s).events = s.events := by simp [fifoPop]

/-! #### `fifoFlush` -/

@[simp] theorem fifoFlush_params (s : State) : (fifoFlush s).params = s.params := by simp [fifoFlush]
@[simp] theorem fifoFlush_command0 (s : State) : (fifoFlush s).command0 = s.command0 := by simp [fifoFlush]
@[simp] theorem fifoFlush_command1 (s : State) : (fifoFlush s).command1 = s.command1 := by simp [fifoFlush]
@[simp] theorem fifoFlush_cmdCount (s : State) : (fifoFlush s).cmdCount = s.cmdCount := by simp [fifoFlush]
@[simp] theorem fifoFlush_dmaCommand (s : State) : (fifoFlush s).dmaCommand = s.dmaCommand := by simp [fifoFlush]
@[simp] theorem fifoFlush_fifo (s : State) : (fifoFlush s).fifo = [] := by simp [fifoFlush]
@[simp] theorem fifoFlush_config (s : State) : (fifoFlush s).config = s.config := by simp [fifoFlush]
@[simp] theorem fifoFlush_ownId (s : State) : (fifoFlush s).ownId = s.ownId := by simp [fifoFlush]
@[simp] theorem fifoFlush_testMode (s : State) : (fifoFlush s).testMode = s.testMode := by simp [fifoFlush]
@[simp] theorem fifoFlush_config2 (s : State) : (fifoFlush s).config2 = s.config2 := by simp [fifoFlush]
@[simp] theorem fifoFlush_config3 (s : State) : (fifoFlush s).config3 = s.config3 := by simp [fifoFlush]
@[simp] theorem fifoFlush_fifoAlign (s : State) : (fifoFlush s).fifoAlign = s.fifoAlign := by simp [fifoFlush]
@[simp] theorem fifoFlush_testReg (s : State) : (fifoFlush s).testReg = s.testReg := by simp [fifoFlush]
@[simp] theorem fifoFlush_destId (s : State) : (fifoFlush s).destId = s.destId := by simp [fifoFlush]
@[simp] theorem fifoFlush_selectTimeout (s : State) : (fifoFlush s).selectTimeout = s.selectTimeout := by simp [fifoFlush]
@[simp] theorem fifoFlush_clockConv (s : State) : (fifoFlush s).clockConv = s.clockConv := by simp [fifoFlush]
@[simp] theorem fifoFlush_syncPeriod (s : State) : (fifoFlush s).syncPeriod = s.syncPeriod := by simp [fifoFlush]
@[simp] theorem fifoFlush_syncOffset (s : State) : (fifoFlush s).syncOffset = s.syncOffset := by simp [fifoFlush]
@[simp] theorem fifoFlush_tcount (s : State) : (fifoFlush s).tcount = s.tcount := by simp [fifoFlush]
@[simp] theorem fifoFlush_tcounter (s : State) : (fifoFlush s).tcounter = s.tcounter := by simp [fifoFlush]
@[simp] theorem fifoFlush_ge (s : State) : (fifoFlush s).ge = s.ge := by simp [fifoFlush]
@[simp] theorem fifoFlush_pe (s : State) : (fifoFlush s).pe = s.pe := by simp [fifoFlush]
@[simp] theorem fifoFlush_tc (s : State) : (fifoFlush s).tc = s.tc := by simp [fifoFlush]
@[simp] theorem fifoFlush_istatus (s : State) : (fifoFlush s).istatus = s.istatus := by simp [fifoFlush]
@[simp] theorem fifoFlush_seq (s : State) : (fifoFlush s).seq = s.seq := by simp [fifoFlush]
@[simp] theorem fifoFlush_mode (s : State) : (fifoFlush s).mode = s.mode := by simp [fifoFlush]
@[simp] theorem fifoFlush_coarse (s : State) : (fifoFlush s).coarse = s.coarse := by simp [fifoFlush]
@[simp] theorem fifoFlush_sub (s : State) : (fifoFlush s).sub = s.sub := by simp [fifoFlush]
@[simp] theorem fifoFlush_xfrPhase (s : State) : (fifoFlush s).xfrPhase = s.xfrPhase := by simp [fifoFlush]
@[simp] theorem fifoFlush_dmaDir (s : State) : (fifoFlush s).dmaDir = s.dmaDir := by simp [fifoFlush]
@[simp] theorem fifoFlush_commandLength (s : State) : (fifoFlush s).commandLength = s.commandLength := by simp [fifoFlush]
@[simp] theorem fifoFlush_irq (s : State) : (fifoFlush s).irq = s.irq := by simp [fifoFlush]
@[simp] theorem fifoFlush_timer (s : State) : (fifoFlush s).timer = s.timer := by simp [fifoFlush]
@[simp] theorem fifoFlush_ctrlDrive (s : State) : (fifoFlush s).ctrlDrive = s.ctrlDrive := by simp [fifoFlush]
@[simp] theorem fifoFlush_dataDrive (s : State) : (fifoFlush s).dataDrive = s.dataDrive := by simp [fifoFlush]
@[simp] theorem fifoFlush_fault (s : State) : (fifoFlush s).fault = s.fault := by simp [fifoFlush]
@[simp] theorem fifoFlush_envCtrl (s : State) : (fifoFlush s).envCtrl = s.envCtrl := by simp [fifoFlush]
@[simp] theorem fifoFlush_envData (s : State) : (fifoFlush s).envData = s.envData := by simp [fifoFlush]
@[simp] theorem fifoFlush_readData (s : State) : (fifoFlush s).readData = s.readData := by simp [fifoFlush]
@[simp] theorem fifoFlush_draws (s : State) : (fifoFlush s).draws = s.draws := by simp [fifoFlush]
@[simp] theorem fifoFlush_events (s : State) : (fifoFlush s).events = s.events := by simp [fifoFlush]

/-! #### `softReset` -/

@[simp] theorem softReset_params (s : State) : (softReset s).params = s.params := by simp [softReset]
@[simp] theorem softReset_command0 (s : State) : (softReset s).command0 = s.command0 := by simp [softReset]
@[simp] theorem softReset_command1 (s : State) : (softReset s).command1 = s.command1 := by simp [softReset]
@[simp] theorem softReset_cmdCount (s : State) : (softReset s).cmdCount = 0 := by simp [softReset]
@[simp] theorem softReset_dmaCommand (s : State) : (softReset s).dmaCommand = false := by simp [softReset]
@[simp] theorem softReset_fifo (s : State) : (softReset s).fifo = s.fifo := by simp [softReset]
@[simp] theorem softReset_config (s : State) : (softReset s).config = s.config := by simp [softReset]
@[simp] theorem softReset_ownId (s : State) : (softReset s).ownId = s.ownId := by simp [softReset]
@[simp] theorem softReset_testMode (s : State) : (softReset s).testMode = false := by simp [softReset]
@[simp] theorem softReset_config2 (s : State) : (softReset s).config2 = s.config2 := by simp [softReset]
@[simp] theorem softReset_config3 (s : State) : (softReset s).config3 = s.config3 := by simp [softReset]
@[simp] theorem softReset_fifoAlign (s : State) : (softReset s).fifoAlign = s.fifoAlign := by simp [softReset]
@[simp] theorem softReset_testReg (s : State) : (softReset s).testReg = s.testReg := by simp [softReset]
@[simp] theorem softReset_destId (s : State) : (softReset s).destId = s.destId := by simp [softReset]
@[simp] theorem softReset_selectTimeout (s : State) : (softReset s).selectTimeout = s.selectTimeout := by simp [softReset]
@[simp] theorem softReset_clockConv (s : State) : (softReset s).clockConv = s.clockConv := by simp [softReset]
@[simp] theorem softReset_syncPeriod (s : State) : (softReset s).syncPeriod = s.syncPeriod := by simp [softReset]
@[simp] theorem softReset_syncOffset (s : State) : (softReset s).syncOffset = s.syncOffset := by simp [softReset]
@[simp] theorem softReset_tcount (s : State) : (softReset s).tcount = s.tcount := by simp [softReset]
@[simp] theorem softReset_tcounter (s : State) : (softReset s).tcounter = s.tcounter := by simp [softReset]
@[simp] theorem softReset_ge (s : State) : (softReset s).ge = s.ge := by simp [softReset]
@[simp] theorem softReset_pe (s : State) : (softReset s).pe = s.pe := by simp [softReset]
@[simp] theorem softReset_tc (s : State) : (softReset s).tc = s.tc := by simp [softReset]
@[simp] theorem softReset_istatus (s : State) : (softReset s).istatus = s.istatus := by simp [softReset]
@[simp] theorem softReset_seq (s : State) : (softReset s).seq = s.seq := by simp [softReset]
@[simp] theorem softReset_mode (s : State) : (softReset s).mode = .disconnected := by simp [softReset]
@[simp] theorem softReset_coarse (s : State) : (softReset s).coarse = .idle := by simp [softReset]
@[simp] theorem softReset_sub (s : State) : (softReset s).sub = none := by simp [softReset]
@[simp] theorem softReset_xfrPhase (s : State) : (softReset s).xfrPhase = s.xfrPhase := by simp [softReset]
@[simp] theorem softReset_dmaDir (s : State) : (softReset s).dmaDir = .off := by simp [softReset]
@[simp] theorem softReset_commandLength (s : State) : (softReset s).commandLength = 0 := by simp [softReset]
@[simp] theorem softReset_irq (s : State) : (softReset s).irq = (s.istatus != 0x00#8) := by simp [softReset]
@[simp] theorem softReset_drq (s : State) : (softReset s).drq = false := by simp [softReset, drqLevel]
@[simp] theorem softReset_timer (s : State) : (softReset s).timer = none := by simp [softReset]
@[simp] theorem softReset_dataDrive (s : State) : (softReset s).dataDrive = 0x00#8 := by simp [softReset]
@[simp] theorem softReset_fault (s : State) : (softReset s).fault = s.fault := by simp [softReset]
@[simp] theorem softReset_envCtrl (s : State) : (softReset s).envCtrl = s.envCtrl := by simp [softReset]
@[simp] theorem softReset_envData (s : State) : (softReset s).envData = s.envData := by simp [softReset]
@[simp] theorem softReset_readData (s : State) : (softReset s).readData = s.readData := by simp [softReset]
@[simp] theorem softReset_draws (s : State) : (softReset s).draws = s.draws := by simp [softReset]
@[simp] theorem softReset_events (s : State) : (softReset s).events = s.events := by simp [softReset]

/-! #### `drawFields` -/

@[simp] theorem drawFields_params (s : State) : (drawFields s).params = s.params := rfl
@[simp] theorem drawFields_command0 (s : State) : (drawFields s).command0 = s.command0 := rfl
@[simp] theorem drawFields_command1 (s : State) : (drawFields s).command1 = s.command1 := rfl
@[simp] theorem drawFields_cmdCount (s : State) : (drawFields s).cmdCount = s.cmdCount := rfl
@[simp] theorem drawFields_dmaCommand (s : State) : (drawFields s).dmaCommand = s.dmaCommand := rfl
@[simp] theorem drawFields_fifo (s : State) : (drawFields s).fifo = s.fifo := rfl
@[simp] theorem drawFields_config (s : State) : (drawFields s).config = s.config := rfl
@[simp] theorem drawFields_ownId (s : State) : (drawFields s).ownId = s.ownId := rfl
@[simp] theorem drawFields_testMode (s : State) : (drawFields s).testMode = s.testMode := rfl
@[simp] theorem drawFields_config2 (s : State) : (drawFields s).config2 = s.config2 := rfl
@[simp] theorem drawFields_config3 (s : State) : (drawFields s).config3 = s.config3 := rfl
@[simp] theorem drawFields_fifoAlign (s : State) : (drawFields s).fifoAlign = Config.draw 8 s.draws := rfl
@[simp] theorem drawFields_testReg (s : State) : (drawFields s).testReg = Config.draw 8 (s.draws + 1) := rfl
@[simp] theorem drawFields_destId (s : State) : (drawFields s).destId = Config.draw 3 (s.draws + 2) := rfl
@[simp] theorem drawFields_selectTimeout (s : State) : (drawFields s).selectTimeout = Config.draw 8 (s.draws + 3) := rfl
@[simp] theorem drawFields_clockConv (s : State) : (drawFields s).clockConv = s.clockConv := rfl
@[simp] theorem drawFields_syncPeriod (s : State) : (drawFields s).syncPeriod = s.syncPeriod := rfl
@[simp] theorem drawFields_syncOffset (s : State) : (drawFields s).syncOffset = s.syncOffset := rfl
@[simp] theorem drawFields_tcount (s : State) : (drawFields s).tcount = Config.draw 16 (s.draws + 4) := rfl
@[simp] theorem drawFields_tcounter (s : State) : (drawFields s).tcounter = Config.draw 16 (s.draws + 5) := rfl
@[simp] theorem drawFields_ge (s : State) : (drawFields s).ge = s.ge := rfl
@[simp] theorem drawFields_pe (s : State) : (drawFields s).pe = s.pe := rfl
@[simp] theorem drawFields_tc (s : State) : (drawFields s).tc = s.tc := rfl
@[simp] theorem drawFields_istatus (s : State) : (drawFields s).istatus = s.istatus := rfl
@[simp] theorem drawFields_seq (s : State) : (drawFields s).seq = s.seq := rfl
@[simp] theorem drawFields_mode (s : State) : (drawFields s).mode = s.mode := rfl
@[simp] theorem drawFields_coarse (s : State) : (drawFields s).coarse = s.coarse := rfl
@[simp] theorem drawFields_sub (s : State) : (drawFields s).sub = s.sub := rfl
@[simp] theorem drawFields_xfrPhase (s : State) : (drawFields s).xfrPhase = Config.draw 3 (s.draws + 6) := rfl
@[simp] theorem drawFields_dmaDir (s : State) : (drawFields s).dmaDir = s.dmaDir := rfl
@[simp] theorem drawFields_commandLength (s : State) : (drawFields s).commandLength = s.commandLength := rfl
@[simp] theorem drawFields_irq (s : State) : (drawFields s).irq = s.irq := rfl
@[simp] theorem drawFields_drq (s : State) : (drawFields s).drq = s.drq := rfl
@[simp] theorem drawFields_timer (s : State) : (drawFields s).timer = s.timer := rfl
@[simp] theorem drawFields_ctrlDrive (s : State) : (drawFields s).ctrlDrive = s.ctrlDrive := rfl
@[simp] theorem drawFields_dataDrive (s : State) : (drawFields s).dataDrive = s.dataDrive := rfl
@[simp] theorem drawFields_fault (s : State) : (drawFields s).fault = s.fault := rfl
@[simp] theorem drawFields_envCtrl (s : State) : (drawFields s).envCtrl = s.envCtrl := rfl
@[simp] theorem drawFields_envData (s : State) : (drawFields s).envData = s.envData := rfl
@[simp] theorem drawFields_readData (s : State) : (drawFields s).readData = s.readData := rfl
@[simp] theorem drawFields_notices (s : State) : (drawFields s).notices = s.notices := rfl
@[simp] theorem drawFields_draws (s : State) : (drawFields s).draws = s.draws + 7 := rfl
@[simp] theorem drawFields_events (s : State) : (drawFields s).events = s.events := rfl

/-! #### `hardReset` -/

@[simp] theorem hardReset_params (s : State) : (hardReset s).params = s.params := by simp [hardReset]
@[simp] theorem hardReset_command0 (s : State) : (hardReset s).command0 = s.command0 := by simp [hardReset]
@[simp] theorem hardReset_command1 (s : State) : (hardReset s).command1 = s.command1 := by simp [hardReset]
@[simp] theorem hardReset_cmdCount (s : State) : (hardReset s).cmdCount = 0 := by simp [hardReset]
@[simp] theorem hardReset_dmaCommand (s : State) : (hardReset s).dmaCommand = false := by simp [hardReset]
@[simp] theorem hardReset_fifo (s : State) : (hardReset s).fifo = [] := by simp [hardReset]
@[simp] theorem hardReset_config (s : State) : (hardReset s).config = 0x00#8 := by simp [hardReset]
@[simp] theorem hardReset_ownId (s : State) : (hardReset s).ownId = 0#3 := by simp [hardReset]
@[simp] theorem hardReset_testMode (s : State) : (hardReset s).testMode = false := by simp [hardReset]
@[simp] theorem hardReset_config2 (s : State) : (hardReset s).config2 = 0x00#8 := by simp [hardReset]
@[simp] theorem hardReset_config3 (s : State) : (hardReset s).config3 = 0x00#8 := by simp [hardReset]
@[simp] theorem hardReset_fifoAlign (s : State) : (hardReset s).fifoAlign = Config.draw 8 s.draws := by simp [hardReset]
@[simp] theorem hardReset_testReg (s : State) : (hardReset s).testReg = Config.draw 8 (s.draws + 1) := by simp [hardReset]
@[simp] theorem hardReset_destId (s : State) : (hardReset s).destId = Config.draw 3 (s.draws + 2) := by simp [hardReset]
@[simp] theorem hardReset_selectTimeout (s : State) : (hardReset s).selectTimeout = Config.draw 8 (s.draws + 3) := by simp [hardReset]
@[simp] theorem hardReset_clockConv (s : State) : (hardReset s).clockConv = 2#3 := by simp [hardReset]
@[simp] theorem hardReset_syncPeriod (s : State) : (hardReset s).syncPeriod = 5#5 := by simp [hardReset]
@[simp] theorem hardReset_syncOffset (s : State) : (hardReset s).syncOffset = 0#4 := by simp [hardReset]
@[simp] theorem hardReset_tcount (s : State) : (hardReset s).tcount = Config.draw 16 (s.draws + 4) := by simp [hardReset]
@[simp] theorem hardReset_tcounter (s : State) : (hardReset s).tcounter = Config.draw 16 (s.draws + 5) := by simp [hardReset]
@[simp] theorem hardReset_ge (s : State) : (hardReset s).ge = false := by simp [hardReset]
@[simp] theorem hardReset_pe (s : State) : (hardReset s).pe = false := by simp [hardReset]
@[simp] theorem hardReset_tc (s : State) : (hardReset s).tc = false := by simp [hardReset]
@[simp] theorem hardReset_istatus (s : State) : (hardReset s).istatus = 0x00#8 := by simp [hardReset]
@[simp] theorem hardReset_seq (s : State) : (hardReset s).seq = 0#3 := by simp [hardReset]
@[simp] theorem hardReset_mode (s : State) : (hardReset s).mode = .disconnected := by simp [hardReset]
@[simp] theorem hardReset_coarse (s : State) : (hardReset s).coarse = .idle := by simp [hardReset]
@[simp] theorem hardReset_sub (s : State) : (hardReset s).sub = none := by simp [hardReset]
@[simp] theorem hardReset_xfrPhase (s : State) : (hardReset s).xfrPhase = Config.draw 3 (s.draws + 6) := by simp [hardReset]
@[simp] theorem hardReset_dmaDir (s : State) : (hardReset s).dmaDir = .off := by simp [hardReset]
@[simp] theorem hardReset_commandLength (s : State) : (hardReset s).commandLength = 0 := by simp [hardReset]
@[simp] theorem hardReset_irq (s : State) : (hardReset s).irq = false := by simp [hardReset]
@[simp] theorem hardReset_drq (s : State) : (hardReset s).drq = false := by simp [hardReset]
@[simp] theorem hardReset_timer (s : State) : (hardReset s).timer = none := by simp [hardReset]
@[simp] theorem hardReset_dataDrive (s : State) : (hardReset s).dataDrive = 0x00#8 := by simp [hardReset]
@[simp] theorem hardReset_fault (s : State) : (hardReset s).fault = s.fault := by simp [hardReset]
@[simp] theorem hardReset_envCtrl (s : State) : (hardReset s).envCtrl = s.envCtrl := by simp [hardReset]
@[simp] theorem hardReset_envData (s : State) : (hardReset s).envData = s.envData := by simp [hardReset]
@[simp] theorem hardReset_readData (s : State) : (hardReset s).readData = s.readData := by simp [hardReset]
@[simp] theorem hardReset_draws (s : State) : (hardReset s).draws = s.draws + 7 := by simp [hardReset]
@[simp] theorem hardReset_events (s : State) : (hardReset s).events = s.events := by simp [hardReset]

/-! #### `resetDisconnect` -/

@[simp] theorem resetDisconnect_params (s : State) : (resetDisconnect s).params = s.params := by simp [resetDisconnect]
@[simp] theorem resetDisconnect_command0 (s : State) : (resetDisconnect s).command0 = s.command0 := by simp [resetDisconnect]
@[simp] theorem resetDisconnect_command1 (s : State) : (resetDisconnect s).command1 = s.command1 := by simp [resetDisconnect]
@[simp] theorem resetDisconnect_cmdCount (s : State) : (resetDisconnect s).cmdCount = 0 := by simp [resetDisconnect]
@[simp] theorem resetDisconnect_dmaCommand (s : State) : (resetDisconnect s).dmaCommand = s.dmaCommand := by simp [resetDisconnect]
@[simp] theorem resetDisconnect_fifo (s : State) : (resetDisconnect s).fifo = s.fifo := by simp [resetDisconnect]
@[simp] theorem resetDisconnect_config (s : State) : (resetDisconnect s).config = s.config := by simp [resetDisconnect]
@[simp] theorem resetDisconnect_ownId (s : State) : (resetDisconnect s).ownId = s.ownId := by simp [resetDisconnect]
@[simp] theorem resetDisconnect_testMode (s : State) : (resetDisconnect s).testMode = s.testMode := by simp [resetDisconnect]
@[simp] theorem resetDisconnect_config2 (s : State) : (resetDisconnect s).config2 = s.config2 := by simp [resetDisconnect]
@[simp] theorem resetDisconnect_config3 (s : State) : (resetDisconnect s).config3 = s.config3 := by simp [resetDisconnect]
@[simp] theorem resetDisconnect_fifoAlign (s : State) : (resetDisconnect s).fifoAlign = s.fifoAlign := by simp [resetDisconnect]
@[simp] theorem resetDisconnect_testReg (s : State) : (resetDisconnect s).testReg = s.testReg := by simp [resetDisconnect]
@[simp] theorem resetDisconnect_destId (s : State) : (resetDisconnect s).destId = s.destId := by simp [resetDisconnect]
@[simp] theorem resetDisconnect_selectTimeout (s : State) : (resetDisconnect s).selectTimeout = s.selectTimeout := by simp [resetDisconnect]
@[simp] theorem resetDisconnect_clockConv (s : State) : (resetDisconnect s).clockConv = s.clockConv := by simp [resetDisconnect]
@[simp] theorem resetDisconnect_syncPeriod (s : State) : (resetDisconnect s).syncPeriod = s.syncPeriod := by simp [resetDisconnect]
@[simp] theorem resetDisconnect_syncOffset (s : State) : (resetDisconnect s).syncOffset = s.syncOffset := by simp [resetDisconnect]
@[simp] theorem resetDisconnect_tcount (s : State) : (resetDisconnect s).tcount = s.tcount := by simp [resetDisconnect]
@[simp] theorem resetDisconnect_tcounter (s : State) : (resetDisconnect s).tcounter = s.tcounter := by simp [resetDisconnect]
@[simp] theorem resetDisconnect_ge (s : State) : (resetDisconnect s).ge = s.ge := by simp [resetDisconnect]
@[simp] theorem resetDisconnect_pe (s : State) : (resetDisconnect s).pe = s.pe := by simp [resetDisconnect]
@[simp] theorem resetDisconnect_tc (s : State) : (resetDisconnect s).tc = s.tc := by simp [resetDisconnect]
@[simp] theorem resetDisconnect_istatus (s : State) : (resetDisconnect s).istatus = s.istatus := by simp [resetDisconnect]
@[simp] theorem resetDisconnect_seq (s : State) : (resetDisconnect s).seq = s.seq := by simp [resetDisconnect]
@[simp] theorem resetDisconnect_mode (s : State) : (resetDisconnect s).mode = .disconnected := by simp [resetDisconnect]
@[simp] theorem resetDisconnect_coarse (s : State) : (resetDisconnect s).coarse = s.coarse := by simp [resetDisconnect]
@[simp] theorem resetDisconnect_sub (s : State) : (resetDisconnect s).sub = s.sub := by simp [resetDisconnect]
@[simp] theorem resetDisconnect_xfrPhase (s : State) : (resetDisconnect s).xfrPhase = s.xfrPhase := by simp [resetDisconnect]
@[simp] theorem resetDisconnect_dmaDir (s : State) : (resetDisconnect s).dmaDir = .off := by simp [resetDisconnect]
@[simp] theorem resetDisconnect_commandLength (s : State) : (resetDisconnect s).commandLength = s.commandLength := by simp [resetDisconnect]
@[simp] theorem resetDisconnect_irq (s : State) : (resetDisconnect s).irq = s.irq := by simp [resetDisconnect]
@[simp] theorem resetDisconnect_drq (s : State) : (resetDisconnect s).drq = false := by simp [resetDisconnect, drqLevel]
@[simp] theorem resetDisconnect_timer (s : State) : (resetDisconnect s).timer = s.timer := by simp [resetDisconnect]
@[simp] theorem resetDisconnect_dataDrive (s : State) : (resetDisconnect s).dataDrive = 0x00#8 := by simp [resetDisconnect]
@[simp] theorem resetDisconnect_fault (s : State) : (resetDisconnect s).fault = s.fault := by simp [resetDisconnect]
@[simp] theorem resetDisconnect_envCtrl (s : State) : (resetDisconnect s).envCtrl = s.envCtrl := by simp [resetDisconnect]
@[simp] theorem resetDisconnect_envData (s : State) : (resetDisconnect s).envData = s.envData := by simp [resetDisconnect]
@[simp] theorem resetDisconnect_readData (s : State) : (resetDisconnect s).readData = s.readData := by simp [resetDisconnect]
@[simp] theorem resetDisconnect_draws (s : State) : (resetDisconnect s).draws = s.draws := by simp [resetDisconnect]
@[simp] theorem resetDisconnect_events (s : State) : (resetDisconnect s).events = s.events := by simp [resetDisconnect]

/-! #### `complete` -/

@[simp] theorem complete_params (c : Byte) (s : State) : (complete c s).params = s.params := by simp [complete]
@[simp] theorem complete_command0 (c : Byte) (s : State) : (complete c s).command0 = s.command0 := by simp [complete]
@[simp] theorem complete_command1 (c : Byte) (s : State) : (complete c s).command1 = s.command1 := by simp [complete]
@[simp] theorem complete_cmdCount (c : Byte) (s : State) : (complete c s).cmdCount = s.cmdCount := by simp [complete]
@[simp] theorem complete_dmaCommand (c : Byte) (s : State) : (complete c s).dmaCommand = s.dmaCommand := by simp [complete]
@[simp] theorem complete_fifo (c : Byte) (s : State) : (complete c s).fifo = s.fifo := by simp [complete]
@[simp] theorem complete_config (c : Byte) (s : State) : (complete c s).config = s.config := by simp [complete]
@[simp] theorem complete_ownId (c : Byte) (s : State) : (complete c s).ownId = s.ownId := by simp [complete]
@[simp] theorem complete_testMode (c : Byte) (s : State) : (complete c s).testMode = s.testMode := by simp [complete]
@[simp] theorem complete_config2 (c : Byte) (s : State) : (complete c s).config2 = s.config2 := by simp [complete]
@[simp] theorem complete_config3 (c : Byte) (s : State) : (complete c s).config3 = s.config3 := by simp [complete]
@[simp] theorem complete_fifoAlign (c : Byte) (s : State) : (complete c s).fifoAlign = s.fifoAlign := by simp [complete]
@[simp] theorem complete_testReg (c : Byte) (s : State) : (complete c s).testReg = s.testReg := by simp [complete]
@[simp] theorem complete_destId (c : Byte) (s : State) : (complete c s).destId = s.destId := by simp [complete]
@[simp] theorem complete_selectTimeout (c : Byte) (s : State) : (complete c s).selectTimeout = s.selectTimeout := by simp [complete]
@[simp] theorem complete_clockConv (c : Byte) (s : State) : (complete c s).clockConv = s.clockConv := by simp [complete]
@[simp] theorem complete_syncPeriod (c : Byte) (s : State) : (complete c s).syncPeriod = s.syncPeriod := by simp [complete]
@[simp] theorem complete_syncOffset (c : Byte) (s : State) : (complete c s).syncOffset = s.syncOffset := by simp [complete]
@[simp] theorem complete_tcount (c : Byte) (s : State) : (complete c s).tcount = s.tcount := by simp [complete]
@[simp] theorem complete_tcounter (c : Byte) (s : State) : (complete c s).tcounter = s.tcounter := by simp [complete]
@[simp] theorem complete_ge (c : Byte) (s : State) : (complete c s).ge = s.ge := by simp [complete]
@[simp] theorem complete_pe (c : Byte) (s : State) : (complete c s).pe = s.pe := by simp [complete]
@[simp] theorem complete_tc (c : Byte) (s : State) : (complete c s).tc = s.tc := by simp [complete]
@[simp] theorem complete_istatus (c : Byte) (s : State) : (complete c s).istatus = s.istatus ||| c := by simp [complete]
@[simp] theorem complete_seq (c : Byte) (s : State) : (complete c s).seq = s.seq := by simp [complete]
@[simp] theorem complete_mode (c : Byte) (s : State) : (complete c s).mode = s.mode := by simp [complete]
@[simp] theorem complete_coarse (c : Byte) (s : State) : (complete c s).coarse = .idle := by simp [complete]
@[simp] theorem complete_sub (c : Byte) (s : State) : (complete c s).sub = none := by simp [complete]
@[simp] theorem complete_xfrPhase (c : Byte) (s : State) : (complete c s).xfrPhase = s.xfrPhase := by simp [complete]
@[simp] theorem complete_dmaDir (c : Byte) (s : State) : (complete c s).dmaDir = .off := by simp [complete]
@[simp] theorem complete_commandLength (c : Byte) (s : State) : (complete c s).commandLength = s.commandLength := by simp [complete]
@[simp] theorem complete_irq (c : Byte) (s : State) : (complete c s).irq = (s.istatus ||| c != 0x00#8) := by simp [complete]
@[simp] theorem complete_drq (c : Byte) (s : State) : (complete c s).drq = false := by simp [complete, drqLevel]
@[simp] theorem complete_timer (c : Byte) (s : State) : (complete c s).timer = s.timer := by simp [complete]
@[simp] theorem complete_ctrlDrive (c : Byte) (s : State) : (complete c s).ctrlDrive = s.ctrlDrive := by simp [complete]
@[simp] theorem complete_dataDrive (c : Byte) (s : State) : (complete c s).dataDrive = s.dataDrive := by simp [complete]
@[simp] theorem complete_fault (c : Byte) (s : State) : (complete c s).fault = s.fault := by simp [complete]
@[simp] theorem complete_envCtrl (c : Byte) (s : State) : (complete c s).envCtrl = s.envCtrl := by simp [complete]
@[simp] theorem complete_envData (c : Byte) (s : State) : (complete c s).envData = s.envData := by simp [complete]
@[simp] theorem complete_readData (c : Byte) (s : State) : (complete c s).readData = s.readData := by simp [complete]
@[simp] theorem complete_draws (c : Byte) (s : State) : (complete c s).draws = s.draws := by simp [complete]
@[simp] theorem complete_events (c : Byte) (s : State) : (complete c s).events = s.events := by simp [complete]

/-! #### `functionComplete` -/

@[simp] theorem functionComplete_params (s : State) : (functionComplete s).params = s.params := by simp [functionComplete]
@[simp] theorem functionComplete_command0 (s : State) : (functionComplete s).command0 = s.command0 := by simp [functionComplete]
@[simp] theorem functionComplete_command1 (s : State) : (functionComplete s).command1 = s.command1 := by simp [functionComplete]
@[simp] theorem functionComplete_cmdCount (s : State) : (functionComplete s).cmdCount = s.cmdCount := by simp [functionComplete]
@[simp] theorem functionComplete_dmaCommand (s : State) : (functionComplete s).dmaCommand = s.dmaCommand := by simp [functionComplete]
@[simp] theorem functionComplete_fifo (s : State) : (functionComplete s).fifo = s.fifo := by simp [functionComplete]
@[simp] theorem functionComplete_config (s : State) : (functionComplete s).config = s.config := by simp [functionComplete]
@[simp] theorem functionComplete_ownId (s : State) : (functionComplete s).ownId = s.ownId := by simp [functionComplete]
@[simp] theorem functionComplete_testMode (s : State) : (functionComplete s).testMode = s.testMode := by simp [functionComplete]
@[simp] theorem functionComplete_config2 (s : State) : (functionComplete s).config2 = s.config2 := by simp [functionComplete]
@[simp] theorem functionComplete_config3 (s : State) : (functionComplete s).config3 = s.config3 := by simp [functionComplete]
@[simp] theorem functionComplete_fifoAlign (s : State) : (functionComplete s).fifoAlign = s.fifoAlign := by simp [functionComplete]
@[simp] theorem functionComplete_testReg (s : State) : (functionComplete s).testReg = s.testReg := by simp [functionComplete]
@[simp] theorem functionComplete_destId (s : State) : (functionComplete s).destId = s.destId := by simp [functionComplete]
@[simp] theorem functionComplete_selectTimeout (s : State) : (functionComplete s).selectTimeout = s.selectTimeout := by simp [functionComplete]
@[simp] theorem functionComplete_clockConv (s : State) : (functionComplete s).clockConv = s.clockConv := by simp [functionComplete]
@[simp] theorem functionComplete_syncPeriod (s : State) : (functionComplete s).syncPeriod = s.syncPeriod := by simp [functionComplete]
@[simp] theorem functionComplete_syncOffset (s : State) : (functionComplete s).syncOffset = s.syncOffset := by simp [functionComplete]
@[simp] theorem functionComplete_tcount (s : State) : (functionComplete s).tcount = s.tcount := by simp [functionComplete]
@[simp] theorem functionComplete_tcounter (s : State) : (functionComplete s).tcounter = s.tcounter := by simp [functionComplete]
@[simp] theorem functionComplete_ge (s : State) : (functionComplete s).ge = s.ge := by simp [functionComplete]
@[simp] theorem functionComplete_pe (s : State) : (functionComplete s).pe = s.pe := by simp [functionComplete]
@[simp] theorem functionComplete_tc (s : State) : (functionComplete s).tc = s.tc := by simp [functionComplete]
@[simp] theorem functionComplete_istatus (s : State) : (functionComplete s).istatus = s.istatus ||| 0x08#8 := by simp [functionComplete, causeFc]
@[simp] theorem functionComplete_seq (s : State) : (functionComplete s).seq = s.seq := by simp [functionComplete]
@[simp] theorem functionComplete_mode (s : State) : (functionComplete s).mode = s.mode := by simp [functionComplete]
@[simp] theorem functionComplete_coarse (s : State) : (functionComplete s).coarse = .idle := by simp [functionComplete]
@[simp] theorem functionComplete_sub (s : State) : (functionComplete s).sub = none := by simp [functionComplete]
@[simp] theorem functionComplete_xfrPhase (s : State) : (functionComplete s).xfrPhase = s.xfrPhase := by simp [functionComplete]
@[simp] theorem functionComplete_dmaDir (s : State) : (functionComplete s).dmaDir = .off := by simp [functionComplete]
@[simp] theorem functionComplete_commandLength (s : State) : (functionComplete s).commandLength = s.commandLength := by simp [functionComplete]
@[simp] theorem functionComplete_irq (s : State) : (functionComplete s).irq = (s.istatus ||| 0x08#8 != 0x00#8) := by simp [functionComplete, causeFc]
@[simp] theorem functionComplete_drq (s : State) : (functionComplete s).drq = false := by simp [functionComplete]
@[simp] theorem functionComplete_timer (s : State) : (functionComplete s).timer = s.timer := by simp [functionComplete]
@[simp] theorem functionComplete_ctrlDrive (s : State) : (functionComplete s).ctrlDrive = s.ctrlDrive := by simp [functionComplete]
@[simp] theorem functionComplete_dataDrive (s : State) : (functionComplete s).dataDrive = s.dataDrive := by simp [functionComplete]
@[simp] theorem functionComplete_fault (s : State) : (functionComplete s).fault = s.fault := by simp [functionComplete]
@[simp] theorem functionComplete_envCtrl (s : State) : (functionComplete s).envCtrl = s.envCtrl := by simp [functionComplete]
@[simp] theorem functionComplete_envData (s : State) : (functionComplete s).envData = s.envData := by simp [functionComplete]
@[simp] theorem functionComplete_readData (s : State) : (functionComplete s).readData = s.readData := by simp [functionComplete]
@[simp] theorem functionComplete_draws (s : State) : (functionComplete s).draws = s.draws := by simp [functionComplete]
@[simp] theorem functionComplete_events (s : State) : (functionComplete s).events = s.events := by simp [functionComplete]

/-! #### `busComplete` -/

@[simp] theorem busComplete_params (s : State) : (busComplete s).params = s.params := by simp [busComplete]
@[simp] theorem busComplete_command0 (s : State) : (busComplete s).command0 = s.command0 := by simp [busComplete]
@[simp] theorem busComplete_command1 (s : State) : (busComplete s).command1 = s.command1 := by simp [busComplete]
@[simp] theorem busComplete_cmdCount (s : State) : (busComplete s).cmdCount = s.cmdCount := by simp [busComplete]
@[simp] theorem busComplete_dmaCommand (s : State) : (busComplete s).dmaCommand = s.dmaCommand := by simp [busComplete]
@[simp] theorem busComplete_fifo (s : State) : (busComplete s).fifo = s.fifo := by simp [busComplete]
@[simp] theorem busComplete_config (s : State) : (busComplete s).config = s.config := by simp [busComplete]
@[simp] theorem busComplete_ownId (s : State) : (busComplete s).ownId = s.ownId := by simp [busComplete]
@[simp] theorem busComplete_testMode (s : State) : (busComplete s).testMode = s.testMode := by simp [busComplete]
@[simp] theorem busComplete_config2 (s : State) : (busComplete s).config2 = s.config2 := by simp [busComplete]
@[simp] theorem busComplete_config3 (s : State) : (busComplete s).config3 = s.config3 := by simp [busComplete]
@[simp] theorem busComplete_fifoAlign (s : State) : (busComplete s).fifoAlign = s.fifoAlign := by simp [busComplete]
@[simp] theorem busComplete_testReg (s : State) : (busComplete s).testReg = s.testReg := by simp [busComplete]
@[simp] theorem busComplete_destId (s : State) : (busComplete s).destId = s.destId := by simp [busComplete]
@[simp] theorem busComplete_selectTimeout (s : State) : (busComplete s).selectTimeout = s.selectTimeout := by simp [busComplete]
@[simp] theorem busComplete_clockConv (s : State) : (busComplete s).clockConv = s.clockConv := by simp [busComplete]
@[simp] theorem busComplete_syncPeriod (s : State) : (busComplete s).syncPeriod = s.syncPeriod := by simp [busComplete]
@[simp] theorem busComplete_syncOffset (s : State) : (busComplete s).syncOffset = s.syncOffset := by simp [busComplete]
@[simp] theorem busComplete_tcount (s : State) : (busComplete s).tcount = s.tcount := by simp [busComplete]
@[simp] theorem busComplete_tcounter (s : State) : (busComplete s).tcounter = s.tcounter := by simp [busComplete]
@[simp] theorem busComplete_ge (s : State) : (busComplete s).ge = s.ge := by simp [busComplete]
@[simp] theorem busComplete_pe (s : State) : (busComplete s).pe = s.pe := by simp [busComplete]
@[simp] theorem busComplete_tc (s : State) : (busComplete s).tc = s.tc := by simp [busComplete]
@[simp] theorem busComplete_istatus (s : State) : (busComplete s).istatus = s.istatus ||| 0x10#8 := by simp [busComplete, causeBs]
@[simp] theorem busComplete_seq (s : State) : (busComplete s).seq = s.seq := by simp [busComplete]
@[simp] theorem busComplete_mode (s : State) : (busComplete s).mode = s.mode := by simp [busComplete]
@[simp] theorem busComplete_coarse (s : State) : (busComplete s).coarse = .idle := by simp [busComplete]
@[simp] theorem busComplete_sub (s : State) : (busComplete s).sub = none := by simp [busComplete]
@[simp] theorem busComplete_xfrPhase (s : State) : (busComplete s).xfrPhase = s.xfrPhase := by simp [busComplete]
@[simp] theorem busComplete_dmaDir (s : State) : (busComplete s).dmaDir = .off := by simp [busComplete]
@[simp] theorem busComplete_commandLength (s : State) : (busComplete s).commandLength = s.commandLength := by simp [busComplete]
@[simp] theorem busComplete_irq (s : State) : (busComplete s).irq = (s.istatus ||| 0x10#8 != 0x00#8) := by simp [busComplete, causeBs]
@[simp] theorem busComplete_drq (s : State) : (busComplete s).drq = false := by simp [busComplete]
@[simp] theorem busComplete_timer (s : State) : (busComplete s).timer = s.timer := by simp [busComplete]
@[simp] theorem busComplete_ctrlDrive (s : State) : (busComplete s).ctrlDrive = s.ctrlDrive := by simp [busComplete]
@[simp] theorem busComplete_dataDrive (s : State) : (busComplete s).dataDrive = s.dataDrive := by simp [busComplete]
@[simp] theorem busComplete_fault (s : State) : (busComplete s).fault = s.fault := by simp [busComplete]
@[simp] theorem busComplete_envCtrl (s : State) : (busComplete s).envCtrl = s.envCtrl := by simp [busComplete]
@[simp] theorem busComplete_envData (s : State) : (busComplete s).envData = s.envData := by simp [busComplete]
@[simp] theorem busComplete_readData (s : State) : (busComplete s).readData = s.readData := by simp [busComplete]
@[simp] theorem busComplete_draws (s : State) : (busComplete s).draws = s.draws := by simp [busComplete]
@[simp] theorem busComplete_events (s : State) : (busComplete s).events = s.events := by simp [busComplete]

/-! #### `istatusClear` -/

@[simp] theorem istatusClear_params (s : State) : (istatusClear s).params = s.params := by simp [istatusClear]
@[simp] theorem istatusClear_command0 (s : State) : (istatusClear s).command0 = s.command0 := by simp [istatusClear]
@[simp] theorem istatusClear_command1 (s : State) : (istatusClear s).command1 = s.command1 := by simp [istatusClear]
@[simp] theorem istatusClear_cmdCount (s : State) : (istatusClear s).cmdCount = s.cmdCount := by simp [istatusClear]
@[simp] theorem istatusClear_dmaCommand (s : State) : (istatusClear s).dmaCommand = s.dmaCommand := by simp [istatusClear]
@[simp] theorem istatusClear_fifo (s : State) : (istatusClear s).fifo = s.fifo := by simp [istatusClear]
@[simp] theorem istatusClear_config (s : State) : (istatusClear s).config = s.config := by simp [istatusClear]
@[simp] theorem istatusClear_ownId (s : State) : (istatusClear s).ownId = s.ownId := by simp [istatusClear]
@[simp] theorem istatusClear_testMode (s : State) : (istatusClear s).testMode = s.testMode := by simp [istatusClear]
@[simp] theorem istatusClear_config2 (s : State) : (istatusClear s).config2 = s.config2 := by simp [istatusClear]
@[simp] theorem istatusClear_config3 (s : State) : (istatusClear s).config3 = s.config3 := by simp [istatusClear]
@[simp] theorem istatusClear_fifoAlign (s : State) : (istatusClear s).fifoAlign = s.fifoAlign := by simp [istatusClear]
@[simp] theorem istatusClear_testReg (s : State) : (istatusClear s).testReg = s.testReg := by simp [istatusClear]
@[simp] theorem istatusClear_destId (s : State) : (istatusClear s).destId = s.destId := by simp [istatusClear]
@[simp] theorem istatusClear_selectTimeout (s : State) : (istatusClear s).selectTimeout = s.selectTimeout := by simp [istatusClear]
@[simp] theorem istatusClear_clockConv (s : State) : (istatusClear s).clockConv = s.clockConv := by simp [istatusClear]
@[simp] theorem istatusClear_syncPeriod (s : State) : (istatusClear s).syncPeriod = s.syncPeriod := by simp [istatusClear]
@[simp] theorem istatusClear_syncOffset (s : State) : (istatusClear s).syncOffset = s.syncOffset := by simp [istatusClear]
@[simp] theorem istatusClear_tcount (s : State) : (istatusClear s).tcount = s.tcount := by simp [istatusClear]
@[simp] theorem istatusClear_tcounter (s : State) : (istatusClear s).tcounter = s.tcounter := by simp [istatusClear]
@[simp] theorem istatusClear_ge (s : State) : (istatusClear s).ge = false := by simp [istatusClear]
@[simp] theorem istatusClear_pe (s : State) : (istatusClear s).pe = false := by simp [istatusClear]
@[simp] theorem istatusClear_tc (s : State) : (istatusClear s).tc = s.tc := by simp [istatusClear]
@[simp] theorem istatusClear_istatus (s : State) : (istatusClear s).istatus = 0x00#8 := by simp [istatusClear]
@[simp] theorem istatusClear_seq (s : State) : (istatusClear s).seq = 0#3 := by simp [istatusClear]
@[simp] theorem istatusClear_mode (s : State) : (istatusClear s).mode = s.mode := by simp [istatusClear]
@[simp] theorem istatusClear_coarse (s : State) : (istatusClear s).coarse = s.coarse := by simp [istatusClear]
@[simp] theorem istatusClear_sub (s : State) : (istatusClear s).sub = s.sub := by simp [istatusClear]
@[simp] theorem istatusClear_xfrPhase (s : State) : (istatusClear s).xfrPhase = s.xfrPhase := by simp [istatusClear]
@[simp] theorem istatusClear_dmaDir (s : State) : (istatusClear s).dmaDir = s.dmaDir := by simp [istatusClear]
@[simp] theorem istatusClear_commandLength (s : State) : (istatusClear s).commandLength = s.commandLength := by simp [istatusClear]
@[simp] theorem istatusClear_irq (s : State) : (istatusClear s).irq = false := by simp [istatusClear]
@[simp] theorem istatusClear_drq (s : State) : (istatusClear s).drq = s.drq := by simp [istatusClear]
@[simp] theorem istatusClear_timer (s : State) : (istatusClear s).timer = s.timer := by simp [istatusClear]
@[simp] theorem istatusClear_ctrlDrive (s : State) : (istatusClear s).ctrlDrive = s.ctrlDrive := by simp [istatusClear]
@[simp] theorem istatusClear_dataDrive (s : State) : (istatusClear s).dataDrive = s.dataDrive := by simp [istatusClear]
@[simp] theorem istatusClear_fault (s : State) : (istatusClear s).fault = s.fault := by simp [istatusClear]
@[simp] theorem istatusClear_envCtrl (s : State) : (istatusClear s).envCtrl = s.envCtrl := by simp [istatusClear]
@[simp] theorem istatusClear_envData (s : State) : (istatusClear s).envData = s.envData := by simp [istatusClear]
@[simp] theorem istatusClear_readData (s : State) : (istatusClear s).readData = s.readData := by simp [istatusClear]
@[simp] theorem istatusClear_draws (s : State) : (istatusClear s).draws = s.draws := by simp [istatusClear]
@[simp] theorem istatusClear_events (s : State) : (istatusClear s).events = s.events := by simp [istatusClear]

/-! #### `beginSelection` -/

@[simp] theorem beginSelection_params (s : State) : (beginSelection s).params = s.params := by simp [beginSelection, arbitrate]
@[simp] theorem beginSelection_command0 (s : State) : (beginSelection s).command0 = s.command0 := by simp [beginSelection, arbitrate]
@[simp] theorem beginSelection_command1 (s : State) : (beginSelection s).command1 = s.command1 := by simp [beginSelection, arbitrate]
@[simp] theorem beginSelection_cmdCount (s : State) : (beginSelection s).cmdCount = s.cmdCount := by simp [beginSelection, arbitrate]
@[simp] theorem beginSelection_dmaCommand (s : State) : (beginSelection s).dmaCommand = s.dmaCommand := by simp [beginSelection, arbitrate]
@[simp] theorem beginSelection_fifo (s : State) : (beginSelection s).fifo = s.fifo := by simp [beginSelection, arbitrate]
@[simp] theorem beginSelection_config (s : State) : (beginSelection s).config = s.config := by simp [beginSelection, arbitrate]
@[simp] theorem beginSelection_ownId (s : State) : (beginSelection s).ownId = s.ownId := by simp [beginSelection, arbitrate]
@[simp] theorem beginSelection_testMode (s : State) : (beginSelection s).testMode = s.testMode := by simp [beginSelection, arbitrate]
@[simp] theorem beginSelection_config2 (s : State) : (beginSelection s).config2 = s.config2 := by simp [beginSelection, arbitrate]
@[simp] theorem beginSelection_config3 (s : State) : (beginSelection s).config3 = s.config3 := by simp [beginSelection, arbitrate]
@[simp] theorem beginSelection_fifoAlign (s : State) : (beginSelection s).fifoAlign = s.fifoAlign := by simp [beginSelection, arbitrate]
@[simp] theorem beginSelection_testReg (s : State) : (beginSelection s).testReg = s.testReg := by simp [beginSelection, arbitrate]
@[simp] theorem beginSelection_destId (s : State) : (beginSelection s).destId = s.destId := by simp [beginSelection, arbitrate]
@[simp] theorem beginSelection_selectTimeout (s : State) : (beginSelection s).selectTimeout = s.selectTimeout := by simp [beginSelection, arbitrate]
@[simp] theorem beginSelection_clockConv (s : State) : (beginSelection s).clockConv = s.clockConv := by simp [beginSelection, arbitrate]
@[simp] theorem beginSelection_syncPeriod (s : State) : (beginSelection s).syncPeriod = s.syncPeriod := by simp [beginSelection, arbitrate]
@[simp] theorem beginSelection_syncOffset (s : State) : (beginSelection s).syncOffset = s.syncOffset := by simp [beginSelection, arbitrate]
@[simp] theorem beginSelection_tcount (s : State) : (beginSelection s).tcount = s.tcount := by simp [beginSelection, arbitrate]
@[simp] theorem beginSelection_tcounter (s : State) : (beginSelection s).tcounter = s.tcounter := by simp [beginSelection, arbitrate]
@[simp] theorem beginSelection_ge (s : State) : (beginSelection s).ge = s.ge := by simp [beginSelection, arbitrate]
@[simp] theorem beginSelection_pe (s : State) : (beginSelection s).pe = s.pe := by simp [beginSelection, arbitrate]
@[simp] theorem beginSelection_tc (s : State) : (beginSelection s).tc = s.tc := by simp [beginSelection, arbitrate]
@[simp] theorem beginSelection_istatus (s : State) : (beginSelection s).istatus = s.istatus := by simp [beginSelection, arbitrate]
@[simp] theorem beginSelection_seq (s : State) : (beginSelection s).seq = 0#3 := by simp [beginSelection, arbitrate]
@[simp] theorem beginSelection_mode (s : State) : (beginSelection s).mode = s.mode := by simp [beginSelection, arbitrate]
@[simp] theorem beginSelection_coarse (s : State) : (beginSelection s).coarse = .discSelArbitrationInit := by simp [beginSelection, arbitrate]
@[simp] theorem beginSelection_sub (s : State) : (beginSelection s).sub = some .arbComplete := by simp [beginSelection, arbitrate]
@[simp] theorem beginSelection_xfrPhase (s : State) : (beginSelection s).xfrPhase = s.xfrPhase := by simp [beginSelection, arbitrate]
@[simp] theorem beginSelection_dmaDir (s : State) : (beginSelection s).dmaDir = if s.dmaCommand then .outward else .off := by simp [beginSelection, arbitrate]
@[simp] theorem beginSelection_commandLength (s : State) : (beginSelection s).commandLength = s.commandLength := by simp [beginSelection, arbitrate]
@[simp] theorem beginSelection_irq (s : State) : (beginSelection s).irq = s.irq := by simp [beginSelection, arbitrate]
@[simp] theorem beginSelection_timer (s : State) : (beginSelection s).timer = some (scaled s s.params.delayArb) := by
  simp only [beginSelection, arbitrate, delay_timer]; rfl
@[simp] theorem beginSelection_ctrlDrive (s : State) : (beginSelection s).ctrlDrive = (s.ctrlDrive &&& ~~~lineBsy) ||| (lineBsy &&& lineBsy) := by simp [beginSelection, arbitrate]
@[simp] theorem beginSelection_dataDrive (s : State) : (beginSelection s).dataDrive = idBit s.ownId := by simp [beginSelection, arbitrate]
@[simp] theorem beginSelection_fault (s : State) : (beginSelection s).fault = s.fault := by simp [beginSelection, arbitrate]
@[simp] theorem beginSelection_envCtrl (s : State) : (beginSelection s).envCtrl = s.envCtrl := by simp [beginSelection, arbitrate]
@[simp] theorem beginSelection_envData (s : State) : (beginSelection s).envData = s.envData := by simp [beginSelection, arbitrate]
@[simp] theorem beginSelection_readData (s : State) : (beginSelection s).readData = s.readData := by simp [beginSelection, arbitrate]
@[simp] theorem beginSelection_draws (s : State) : (beginSelection s).draws = s.draws := by simp [beginSelection, arbitrate]
@[simp] theorem beginSelection_events (s : State) : (beginSelection s).events = s.events := by simp [beginSelection, arbitrate]

/-! #### `decrementTcounter` -/

@[simp] theorem decrementTcounter_params (s : State) : (decrementTcounter s).params = s.params := by
  unfold decrementTcounter; split <;> rfl
@[simp] theorem decrementTcounter_command0 (s : State) : (decrementTcounter s).command0 = s.command0 := by
  unfold decrementTcounter; split <;> rfl
@[simp] theorem decrementTcounter_command1 (s : State) : (decrementTcounter s).command1 = s.command1 := by
  unfold decrementTcounter; split <;> rfl
@[simp] theorem decrementTcounter_cmdCount (s : State) : (decrementTcounter s).cmdCount = s.cmdCount := by
  unfold decrementTcounter; split <;> rfl
@[simp] theorem decrementTcounter_dmaCommand (s : State) : (decrementTcounter s).dmaCommand = s.dmaCommand := by
  unfold decrementTcounter; split <;> rfl
@[simp] theorem decrementTcounter_fifo (s : State) : (decrementTcounter s).fifo = s.fifo := by
  unfold decrementTcounter; split <;> rfl
@[simp] theorem decrementTcounter_config (s : State) : (decrementTcounter s).config = s.config := by
  unfold decrementTcounter; split <;> rfl
@[simp] theorem decrementTcounter_ownId (s : State) : (decrementTcounter s).ownId = s.ownId := by
  unfold decrementTcounter; split <;> rfl
@[simp] theorem decrementTcounter_testMode (s : State) : (decrementTcounter s).testMode = s.testMode := by
  unfold decrementTcounter; split <;> rfl
@[simp] theorem decrementTcounter_config2 (s : State) : (decrementTcounter s).config2 = s.config2 := by
  unfold decrementTcounter; split <;> rfl
@[simp] theorem decrementTcounter_config3 (s : State) : (decrementTcounter s).config3 = s.config3 := by
  unfold decrementTcounter; split <;> rfl
@[simp] theorem decrementTcounter_fifoAlign (s : State) : (decrementTcounter s).fifoAlign = s.fifoAlign := by
  unfold decrementTcounter; split <;> rfl
@[simp] theorem decrementTcounter_testReg (s : State) : (decrementTcounter s).testReg = s.testReg := by
  unfold decrementTcounter; split <;> rfl
@[simp] theorem decrementTcounter_destId (s : State) : (decrementTcounter s).destId = s.destId := by
  unfold decrementTcounter; split <;> rfl
@[simp] theorem decrementTcounter_selectTimeout (s : State) : (decrementTcounter s).selectTimeout = s.selectTimeout := by
  unfold decrementTcounter; split <;> rfl
@[simp] theorem decrementTcounter_clockConv (s : State) : (decrementTcounter s).clockConv = s.clockConv := by
  unfold decrementTcounter; split <;> rfl
@[simp] theorem decrementTcounter_syncPeriod (s : State) : (decrementTcounter s).syncPeriod = s.syncPeriod := by
  unfold decrementTcounter; split <;> rfl
@[simp] theorem decrementTcounter_syncOffset (s : State) : (decrementTcounter s).syncOffset = s.syncOffset := by
  unfold decrementTcounter; split <;> rfl
@[simp] theorem decrementTcounter_tcount (s : State) : (decrementTcounter s).tcount = s.tcount := by
  unfold decrementTcounter; split <;> rfl
@[simp] theorem decrementTcounter_tcounter (s : State) :
    (decrementTcounter s).tcounter = if s.dmaCommand then s.tcounter - 1#16 else s.tcounter := by
  unfold decrementTcounter; split <;> simp_all [updateDrq]
@[simp] theorem decrementTcounter_ge (s : State) : (decrementTcounter s).ge = s.ge := by
  unfold decrementTcounter; split <;> rfl
@[simp] theorem decrementTcounter_pe (s : State) : (decrementTcounter s).pe = s.pe := by
  unfold decrementTcounter; split <;> rfl
@[simp] theorem decrementTcounter_tc (s : State) :
    (decrementTcounter s).tc = if s.dmaCommand then s.tc || s.tcounter - 1#16 == 0#16 else s.tc := by
  unfold decrementTcounter; split <;> simp_all [updateDrq]
@[simp] theorem decrementTcounter_istatus (s : State) : (decrementTcounter s).istatus = s.istatus := by
  unfold decrementTcounter; split <;> rfl
@[simp] theorem decrementTcounter_seq (s : State) : (decrementTcounter s).seq = s.seq := by
  unfold decrementTcounter; split <;> rfl
@[simp] theorem decrementTcounter_mode (s : State) : (decrementTcounter s).mode = s.mode := by
  unfold decrementTcounter; split <;> rfl
@[simp] theorem decrementTcounter_coarse (s : State) : (decrementTcounter s).coarse = s.coarse := by
  unfold decrementTcounter; split <;> rfl
@[simp] theorem decrementTcounter_sub (s : State) : (decrementTcounter s).sub = s.sub := by
  unfold decrementTcounter; split <;> rfl
@[simp] theorem decrementTcounter_xfrPhase (s : State) : (decrementTcounter s).xfrPhase = s.xfrPhase := by
  unfold decrementTcounter; split <;> rfl
@[simp] theorem decrementTcounter_dmaDir (s : State) : (decrementTcounter s).dmaDir = s.dmaDir := by
  unfold decrementTcounter; split <;> rfl
@[simp] theorem decrementTcounter_commandLength (s : State) : (decrementTcounter s).commandLength = s.commandLength := by
  unfold decrementTcounter; split <;> rfl
@[simp] theorem decrementTcounter_irq (s : State) : (decrementTcounter s).irq = s.irq := by
  unfold decrementTcounter; split <;> rfl
@[simp] theorem decrementTcounter_timer (s : State) : (decrementTcounter s).timer = s.timer := by
  unfold decrementTcounter; split <;> rfl
@[simp] theorem decrementTcounter_ctrlDrive (s : State) : (decrementTcounter s).ctrlDrive = s.ctrlDrive := by
  unfold decrementTcounter; split <;> rfl
@[simp] theorem decrementTcounter_dataDrive (s : State) : (decrementTcounter s).dataDrive = s.dataDrive := by
  unfold decrementTcounter; split <;> rfl
@[simp] theorem decrementTcounter_fault (s : State) : (decrementTcounter s).fault = s.fault := by
  unfold decrementTcounter; split <;> rfl
@[simp] theorem decrementTcounter_envCtrl (s : State) : (decrementTcounter s).envCtrl = s.envCtrl := by
  unfold decrementTcounter; split <;> rfl
@[simp] theorem decrementTcounter_envData (s : State) : (decrementTcounter s).envData = s.envData := by
  unfold decrementTcounter; split <;> rfl
@[simp] theorem decrementTcounter_readData (s : State) : (decrementTcounter s).readData = s.readData := by
  unfold decrementTcounter; split <;> rfl
@[simp] theorem decrementTcounter_draws (s : State) : (decrementTcounter s).draws = s.draws := by
  unfold decrementTcounter; split <;> rfl
@[simp] theorem decrementTcounter_events (s : State) : (decrementTcounter s).events = s.events := by
  unfold decrementTcounter; split <;> rfl

/-! #### `dmaReload` -/

@[simp] theorem dmaReload_params (s : State) : (dmaReload s).params = s.params := by
  unfold dmaReload; split <;> rfl
@[simp] theorem dmaReload_command0 (s : State) : (dmaReload s).command0 = s.command0 := by
  unfold dmaReload; split <;> rfl
@[simp] theorem dmaReload_command1 (s : State) : (dmaReload s).command1 = s.command1 := by
  unfold dmaReload; split <;> rfl
@[simp] theorem dmaReload_cmdCount (s : State) : (dmaReload s).cmdCount = s.cmdCount := by
  unfold dmaReload; split <;> rfl
@[simp] theorem dmaReload_dmaCommand (s : State) :
    (dmaReload s).dmaCommand = cmdDma s.command0 := by
  unfold dmaReload; split <;> simp_all [updateDrq]
@[simp] theorem dmaReload_fifo (s : State) : (dmaReload s).fifo = s.fifo := by
  unfold dmaReload; split <;> rfl
@[simp] theorem dmaReload_config (s : State) : (dmaReload s).config = s.config := by
  unfold dmaReload; split <;> rfl
@[simp] theorem dmaReload_ownId (s : State) : (dmaReload s).ownId = s.ownId := by
  unfold dmaReload; split <;> rfl
@[simp] theorem dmaReload_testMode (s : State) : (dmaReload s).testMode = s.testMode := by
  unfold dmaReload; split <;> rfl
@[simp] theorem dmaReload_config2 (s : State) : (dmaReload s).config2 = s.config2 := by
  unfold dmaReload; split <;> rfl
@[simp] theorem dmaReload_config3 (s : State) : (dmaReload s).config3 = s.config3 := by
  unfold dmaReload; split <;> rfl
@[simp] theorem dmaReload_fifoAlign (s : State) : (dmaReload s).fifoAlign = s.fifoAlign := by
  unfold dmaReload; split <;> rfl
@[simp] theorem dmaReload_testReg (s : State) : (dmaReload s).testReg = s.testReg := by
  unfold dmaReload; split <;> rfl
@[simp] theorem dmaReload_destId (s : State) : (dmaReload s).destId = s.destId := by
  unfold dmaReload; split <;> rfl
@[simp] theorem dmaReload_selectTimeout (s : State) : (dmaReload s).selectTimeout = s.selectTimeout := by
  unfold dmaReload; split <;> rfl
@[simp] theorem dmaReload_clockConv (s : State) : (dmaReload s).clockConv = s.clockConv := by
  unfold dmaReload; split <;> rfl
@[simp] theorem dmaReload_syncPeriod (s : State) : (dmaReload s).syncPeriod = s.syncPeriod := by
  unfold dmaReload; split <;> rfl
@[simp] theorem dmaReload_syncOffset (s : State) : (dmaReload s).syncOffset = s.syncOffset := by
  unfold dmaReload; split <;> rfl
@[simp] theorem dmaReload_tcount (s : State) : (dmaReload s).tcount = s.tcount := by
  unfold dmaReload; split <;> rfl
@[simp] theorem dmaReload_tcounter (s : State) :
    (dmaReload s).tcounter = if cmdDma s.command0 then s.tcount else s.tcounter := by
  unfold dmaReload; split <;> simp_all [updateDrq]
@[simp] theorem dmaReload_ge (s : State) : (dmaReload s).ge = s.ge := by
  unfold dmaReload; split <;> rfl
@[simp] theorem dmaReload_pe (s : State) : (dmaReload s).pe = s.pe := by
  unfold dmaReload; split <;> rfl
@[simp] theorem dmaReload_tc (s : State) :
    (dmaReload s).tc = if cmdDma s.command0 then false else s.tc := by
  unfold dmaReload; split <;> simp_all [updateDrq]
@[simp] theorem dmaReload_istatus (s : State) : (dmaReload s).istatus = s.istatus := by
  unfold dmaReload; split <;> rfl
@[simp] theorem dmaReload_seq (s : State) : (dmaReload s).seq = s.seq := by
  unfold dmaReload; split <;> rfl
@[simp] theorem dmaReload_mode (s : State) : (dmaReload s).mode = s.mode := by
  unfold dmaReload; split <;> rfl
@[simp] theorem dmaReload_coarse (s : State) : (dmaReload s).coarse = s.coarse := by
  unfold dmaReload; split <;> rfl
@[simp] theorem dmaReload_sub (s : State) : (dmaReload s).sub = s.sub := by
  unfold dmaReload; split <;> rfl
@[simp] theorem dmaReload_xfrPhase (s : State) : (dmaReload s).xfrPhase = s.xfrPhase := by
  unfold dmaReload; split <;> rfl
@[simp] theorem dmaReload_dmaDir (s : State) : (dmaReload s).dmaDir = s.dmaDir := by
  unfold dmaReload; split <;> rfl
@[simp] theorem dmaReload_commandLength (s : State) : (dmaReload s).commandLength = s.commandLength := by
  unfold dmaReload; split <;> rfl
@[simp] theorem dmaReload_irq (s : State) : (dmaReload s).irq = s.irq := by
  unfold dmaReload; split <;> rfl
@[simp] theorem dmaReload_timer (s : State) : (dmaReload s).timer = s.timer := by
  unfold dmaReload; split <;> rfl
@[simp] theorem dmaReload_ctrlDrive (s : State) : (dmaReload s).ctrlDrive = s.ctrlDrive := by
  unfold dmaReload; split <;> rfl
@[simp] theorem dmaReload_dataDrive (s : State) : (dmaReload s).dataDrive = s.dataDrive := by
  unfold dmaReload; split <;> rfl
@[simp] theorem dmaReload_fault (s : State) : (dmaReload s).fault = s.fault := by
  unfold dmaReload; split <;> rfl
@[simp] theorem dmaReload_envCtrl (s : State) : (dmaReload s).envCtrl = s.envCtrl := by
  unfold dmaReload; split <;> rfl
@[simp] theorem dmaReload_envData (s : State) : (dmaReload s).envData = s.envData := by
  unfold dmaReload; split <;> rfl
@[simp] theorem dmaReload_readData (s : State) : (dmaReload s).readData = s.readData := by
  unfold dmaReload; split <;> rfl
@[simp] theorem dmaReload_draws (s : State) : (dmaReload s).draws = s.draws := by
  unfold dmaReload; split <;> rfl
@[simp] theorem dmaReload_events (s : State) : (dmaReload s).events = s.events := by
  unfold dmaReload; split <;> rfl

/-! #### `answer` -/

@[simp] theorem answer_params (b : Byte) (s : State) : (answer b s).params = s.params := by
  unfold answer; split <;> rfl
@[simp] theorem answer_command0 (b : Byte) (s : State) : (answer b s).command0 = s.command0 := by
  unfold answer; split <;> rfl
@[simp] theorem answer_command1 (b : Byte) (s : State) : (answer b s).command1 = s.command1 := by
  unfold answer; split <;> rfl
@[simp] theorem answer_cmdCount (b : Byte) (s : State) : (answer b s).cmdCount = s.cmdCount := by
  unfold answer; split <;> rfl
@[simp] theorem answer_dmaCommand (b : Byte) (s : State) : (answer b s).dmaCommand = s.dmaCommand := by
  unfold answer; split <;> rfl
@[simp] theorem answer_fifo (b : Byte) (s : State) : (answer b s).fifo = s.fifo := by
  unfold answer; split <;> rfl
@[simp] theorem answer_config (b : Byte) (s : State) : (answer b s).config = s.config := by
  unfold answer; split <;> rfl
@[simp] theorem answer_ownId (b : Byte) (s : State) : (answer b s).ownId = s.ownId := by
  unfold answer; split <;> rfl
@[simp] theorem answer_testMode (b : Byte) (s : State) : (answer b s).testMode = s.testMode := by
  unfold answer; split <;> rfl
@[simp] theorem answer_config2 (b : Byte) (s : State) : (answer b s).config2 = s.config2 := by
  unfold answer; split <;> rfl
@[simp] theorem answer_config3 (b : Byte) (s : State) : (answer b s).config3 = s.config3 := by
  unfold answer; split <;> rfl
@[simp] theorem answer_fifoAlign (b : Byte) (s : State) : (answer b s).fifoAlign = s.fifoAlign := by
  unfold answer; split <;> rfl
@[simp] theorem answer_testReg (b : Byte) (s : State) : (answer b s).testReg = s.testReg := by
  unfold answer; split <;> rfl
@[simp] theorem answer_destId (b : Byte) (s : State) : (answer b s).destId = s.destId := by
  unfold answer; split <;> rfl
@[simp] theorem answer_selectTimeout (b : Byte) (s : State) : (answer b s).selectTimeout = s.selectTimeout := by
  unfold answer; split <;> rfl
@[simp] theorem answer_clockConv (b : Byte) (s : State) : (answer b s).clockConv = s.clockConv := by
  unfold answer; split <;> rfl
@[simp] theorem answer_syncPeriod (b : Byte) (s : State) : (answer b s).syncPeriod = s.syncPeriod := by
  unfold answer; split <;> rfl
@[simp] theorem answer_syncOffset (b : Byte) (s : State) : (answer b s).syncOffset = s.syncOffset := by
  unfold answer; split <;> rfl
@[simp] theorem answer_tcount (b : Byte) (s : State) : (answer b s).tcount = s.tcount := by
  unfold answer; split <;> rfl
@[simp] theorem answer_tcounter (b : Byte) (s : State) : (answer b s).tcounter = s.tcounter := by
  unfold answer; split <;> rfl
@[simp] theorem answer_ge (b : Byte) (s : State) : (answer b s).ge = s.ge := by
  unfold answer; split <;> rfl
@[simp] theorem answer_pe (b : Byte) (s : State) : (answer b s).pe = s.pe := by
  unfold answer; split <;> rfl
@[simp] theorem answer_tc (b : Byte) (s : State) : (answer b s).tc = s.tc := by
  unfold answer; split <;> rfl
@[simp] theorem answer_istatus (b : Byte) (s : State) : (answer b s).istatus = s.istatus := by
  unfold answer; split <;> rfl
@[simp] theorem answer_seq (b : Byte) (s : State) : (answer b s).seq = s.seq := by
  unfold answer; split <;> rfl
@[simp] theorem answer_mode (b : Byte) (s : State) : (answer b s).mode = s.mode := by
  unfold answer; split <;> rfl
@[simp] theorem answer_coarse (b : Byte) (s : State) : (answer b s).coarse = s.coarse := by
  unfold answer; split <;> rfl
@[simp] theorem answer_sub (b : Byte) (s : State) : (answer b s).sub = s.sub := by
  unfold answer; split <;> rfl
@[simp] theorem answer_xfrPhase (b : Byte) (s : State) : (answer b s).xfrPhase = s.xfrPhase := by
  unfold answer; split <;> rfl
@[simp] theorem answer_dmaDir (b : Byte) (s : State) : (answer b s).dmaDir = s.dmaDir := by
  unfold answer; split <;> rfl
@[simp] theorem answer_commandLength (b : Byte) (s : State) : (answer b s).commandLength = s.commandLength := by
  unfold answer; split <;> rfl
@[simp] theorem answer_irq (b : Byte) (s : State) : (answer b s).irq = s.irq := by
  unfold answer; split <;> rfl
@[simp] theorem answer_drq (b : Byte) (s : State) : (answer b s).drq = s.drq := by
  unfold answer; split <;> rfl
@[simp] theorem answer_timer (b : Byte) (s : State) : (answer b s).timer = s.timer := by
  unfold answer; split <;> rfl
@[simp] theorem answer_ctrlDrive (b : Byte) (s : State) : (answer b s).ctrlDrive = s.ctrlDrive := by
  unfold answer; split <;> rfl
@[simp] theorem answer_dataDrive (b : Byte) (s : State) : (answer b s).dataDrive = s.dataDrive := by
  unfold answer; split <;> rfl
@[simp] theorem answer_fault (b : Byte) (s : State) : (answer b s).fault = s.fault := by
  unfold answer; split <;> rfl
@[simp] theorem answer_envCtrl (b : Byte) (s : State) : (answer b s).envCtrl = s.envCtrl := by
  unfold answer; split <;> rfl
@[simp] theorem answer_envData (b : Byte) (s : State) : (answer b s).envData = s.envData := by
  unfold answer; split <;> rfl
@[simp] theorem answer_readData (b : Byte) (s : State) :
    (answer b s).readData = if s.fault = none then b else s.readData := by
  unfold answer; split <;> simp_all
@[simp] theorem answer_notices (b : Byte) (s : State) : (answer b s).notices = s.notices := by
  unfold answer; split <;> rfl
@[simp] theorem answer_draws (b : Byte) (s : State) : (answer b s).draws = s.draws := by
  unfold answer; split <;> rfl
@[simp] theorem answer_events (b : Byte) (s : State) : (answer b s).events = s.events := by
  unfold answer; split <;> rfl

/-! #### Derived outputs -/

/-- R535's formula in one expression. -/
theorem drqLevel_eq (s : State) : drqLevel s =
    ((s.dmaDir == .inward && !s.fifo.isEmpty) || (s.dmaDir == .outward && !s.tc && decide (s.fifo.length < 16))) := by
  unfold drqLevel
  cases s.dmaDir <;> cases s.fifo <;> simp [Config.fifoDepth]

/-- DRQ that follows its formula is left, with no edge put out (R535). -/
theorem updateDrq_settled {s : State} (h : s.drq = drqLevel s) : updateDrq s = s := by simp [updateDrq, ← h]

/-- IRQ that follows the causes is left, with no edge put out (R531). -/
theorem updateIrq_settled {s : State} (h : s.irq = irqLevel s) : updateIrq s = s := by simp [updateIrq, ← h]

end Sys2Proof.Machine
end

