-- ==== Sys2Proof/Laws/Dispatcher.lean ====
section
/-! SUPPORT. The command table and the queue, said once: what a command byte is made of, what a command written into an
empty queue comes to, and what an event answers. -/

namespace Sys2Proof.Machine

/-! #### The command table -/

theorem cmdCode_byte (k : Cmd) (d : Bool) : cmdCode (k.byte d) = k.code := by cases k <;> cases d <;> rfl

theorem cmdDma_byte (k : Cmd) (d : Bool) : cmdDma (k.byte d) = d := by cases k <;> cases d <;> rfl

theorem decodeCmd_code (k : Cmd) : decodeCmd k.code = some k := by cases k <;> rfl

theorem code_of_decodeCmd {c : CmdCode} {k : Cmd} (h : decodeCmd c = some k) : k.code = c := by
  simpa using List.find?_some h

/-- A command byte is its command with its D bit. -/
theorem byte_of_decodeCmd {v : Byte} {k : Cmd} (h : decodeCmd (cmdCode v) = some k) : k.byte (cmdDma v) = v := by
  have hk := code_of_decodeCmd h
  simp only [Cmd.byte, hk, cmdDma, cmdCode]
  clear hk h
  revert v
  decide +kernel

/-- Which commands are valid codes. -/
theorem valid_group0 {var : Config.Variant} {m : Mode} {k : Cmd} (hk : k ∈ [Cmd.nop, .flush, .reset, .resetbus]) :
    commandValid var m k.code = true := by
  revert k
  cases var <;> cases m <;> decide

theorem valid_initiator {var : Config.Variant} {k : Cmd}
    (hk : k ∈ [Cmd.xfer, .iccs, .msgacc, .pad, .setatn, .resetatn]) :
    commandValid var .initiator k.code = true := by
  revert k
  cases var <;> decide

theorem valid_disconnected {var : Config.Variant} {k : Cmd}
    (hk : k ∈ [Cmd.reselect, .select, .selatn, .selatnstop, .ensel, .dissel]) :
    commandValid var .disconnected k.code = true := by
  revert k
  cases var <;> decide

/-! #### Events -/

theorem event_live {f : State → State} {s : State} (h : s.live) : event f s = .next (f { s with notices := [] }) := by
  simp [event, h]

theorem event_faulted {f : State → State} {s : State} {k : Fault} (h : s.fault = some k) : event f s = .fault k := by
  simp [event, h]

/-- An event that answers a next state ran on a live device. -/
theorem event_next {f : State → State} {s t : State} (h : event f s = .next t) :
    s.live ∧ t = f { s with notices := [] } := by
  unfold event at h
  split at h
  · cases h
  · rename_i hf
    cases h
    exact ⟨hf, rfl⟩

/-! #### The queue -/

theorem commandQueue_empty {v : Byte} {s : State} (h : s.queueEmpty) : commandQueue v s = s := by
  have h0 : s.cmdCount = 0 := h
  have e : { s with cmdCount := 0 } = s := by rw [← h0]
  simp [commandQueue, e]

/-- A byte written into an empty queue becomes the current command and starts (R300). -/
theorem commandWrite_empty {v : Byte} {s : State} (h : s.queueEmpty) :
    commandWrite v s = startOnly { s with command0 := v, cmdCount := 1 } := by
  simp [commandWrite, commandQueue_empty h, h]

/-- A reset byte starts at once, whatever is queued (R301). -/
theorem commandWrite_reset {v : Byte} {s : State} (h : isResetByte v = true) :
    commandWrite v s = startOnly { s with command0 := v, cmdCount := 1 } := by
  simp [commandWrite, commandQueue, h]

/-- What the host sees of a started command: it has popped itself, or not (R321). -/
def settled (t : Started) : State := if t.2 then popLast t.1 else t.1

@[simp] theorem settled_runs (s : State) : settled (runs s) = s := rfl
@[simp] theorem settled_popsItself (s : State) : settled (popsItself s) = popLast s := rfl
@[simp] theorem settled_unimplemented (s : State) : settled (unimplemented s) = raise .unimplementedCommand s := rfl

theorem startOnly_eq (s : State) : startOnly s = settled (startCommand s) := by
  unfold startOnly settled
  split <;> simp_all

/-- A valid command byte in slot 0 runs its rule after the reload (R308). -/
theorem startOnly_valid {s : State} {k : Cmd} (hk : decodeCmd (cmdCode s.command0) = some k)
    (hv : commandValid s.params.variant s.mode k.code = true) :
    startOnly s = settled (commandRule k (dmaReload s)) := by
  rw [startOnly_eq, startCommand, ← code_of_decodeCmd hk, if_pos hv, decodeCmd_code]

/-- An invalid one sets ILL, and nothing is reloaded (R305). -/
theorem startOnly_invalid {s : State} (hv : commandValid s.params.variant s.mode (cmdCode s.command0) = false) :
    startOnly s = setCause causeIll s := by
  rw [startOnly_eq, startCommand, if_neg (by simp [hv])]
  rfl

theorem dmaReload_accepted (k : Cmd) (d : Bool) (s : State) :
    dmaReload { s with notices := [], command0 := k.byte d, cmdCount := 1 } = accepted k d s := by
  unfold dmaReload accepted reloaded
  rw [cmdDma_byte]
  cases d <;> rfl

/-- A command instruction is the write of its byte. -/
theorem exec_instr (k : Cmd) (d : Bool) (s : State) : exec (k.instr d) s = event (commandWrite (k.byte d)) s := by
  cases k <;> rfl

/-- A valid command written into the empty queue of a live device: its rule runs on the accepted command (R300, R308). -/
theorem exec_valid {s : State} (k : Cmd) (d : Bool) (hl : s.live) (hq : s.queueEmpty)
    (hv : commandValid s.params.variant s.mode k.code = true) :
    exec (k.instr d) s = .next (settled (commandRule k (accepted k d s))) := by
  have e := commandWrite_empty (v := k.byte d) (s := { s with notices := [] }) hq
  have r := startOnly_valid (s := { s with notices := [], command0 := k.byte d, cmdCount := 1 }) (k := k)
    (by rw [cmdCode_byte, decodeCmd_code]) hv
  rw [dmaReload_accepted] at r
  rw [exec_instr, event_live hl]
  exact congrArg _ (e.trans r)

/-- An invalid one sets ILL (R305). -/
theorem exec_invalid {s : State} (k : Cmd) (d : Bool) (hl : s.live) (hq : s.queueEmpty)
    (hv : commandValid s.params.variant s.mode k.code = false) :
    exec (k.instr d) s =
      .next (setCause causeIll { s with notices := [], command0 := k.byte d, cmdCount := 1 }) := by
  have e := commandWrite_empty (v := k.byte d) (s := { s with notices := [] }) hq
  have r := startOnly_invalid (s := { s with notices := [], command0 := k.byte d, cmdCount := 1 })
    (by rw [cmdCode_byte]; exact hv)
  rw [exec_instr, event_live hl]
  exact congrArg _ (e.trans r)

end Sys2Proof.Machine
end

