-- ==== Sys2Proof/Laws/Lines.lean ====
section
/-! SUPPORT. Driving some lines leaves what is read of the others: one lemma for a line, one for the phase. -/

namespace Sys2Proof.Machine

/-- Bits outside a mask do not see a masked replacement. -/
theorem and_masked_eq {w : Nat} (c v e m l : BitVec w) (hl : l &&& m = 0#w) :
    ((c &&& ~~~m ||| v &&& m) ||| e) &&& l = (c ||| e) &&& l := by
  apply BitVec.eq_of_getLsbD_eq
  intro i hi
  have : (l &&& m).getLsbD i = false := by rw [hl]; simp
  simp only [BitVec.getLsbD_and, BitVec.getLsbD_or, BitVec.getLsbD_not, hi, decide_true, Bool.true_and] at this ⊢
  generalize l.getLsbD i = x at *
  generalize m.getLsbD i = y at *
  cases x <;> cases y <;> simp_all

/-- A line outside the driven mask reads as before. -/
theorem asserted_driveCtrl {v m l : Lines} (s : State) (hl : l &&& m = 0#9) :
    asserted (busCtrl (driveCtrl v m s)) l = asserted (busCtrl s) l := by
  simp only [asserted, busCtrl, driveCtrl, and_masked_eq _ _ _ _ _ hl]

/-- The phase is read as before where the driven mask has no phase line. -/
theorem phaseOf_driveCtrl {v m : Lines} (s : State) (hm : 0x007#9 &&& m = 0#9) :
    phaseOf (busCtrl (driveCtrl v m s)) = phaseOf (busCtrl s) := by
  have h : ∀ x : Lines, phaseOf x = phaseOf (x &&& 0x007#9) := by decide +kernel
  rw [h, h (busCtrl s)]
  simp only [busCtrl, driveCtrl, and_masked_eq _ _ _ _ _ hm]

/-- An asserted line stays asserted when more lines are. -/
theorem asserted_or {c e l : Lines} (h : asserted e l = true) :
    asserted (c ||| e) l = true := by
  simp only [asserted, bne_iff_ne, ne_eq] at h ⊢
  intro hz
  apply h
  apply BitVec.eq_of_getLsbD_eq
  intro i _
  have hb : ((c ||| e) &&& l).getLsbD i = false := by rw [hz]; simp
  simp only [BitVec.getLsbD_and, BitVec.getLsbD_or, BitVec.getLsbD_zero] at hb ⊢
  generalize BitVec.getLsbD e i = x at *
  generalize BitVec.getLsbD l i = y at *
  cases x <;> cases y <;> simp_all

end Sys2Proof.Machine
end

