-- ==== Sys2Proof/Laws/Handshake.lean ====
section
/-! SUPPORT. The drives the rules make, bit by bit, and what `SendByte` and `RecvByte` come to, said once. -/

namespace Sys2Proof.Machine

theorem drive_release_all (c : Lines) : c &&& ~~~allLines ||| 0#9 &&& allLines = 0#9 := by revert c; decide +kernel

@[simp] theorem resetDisconnect_ctrlDrive (s : State) : (resetDisconnect s).ctrlDrive = 0#9 := drive_release_all _

@[simp] theorem softReset_ctrlDrive (s : State) : (softReset s).ctrlDrive = 0#9 := drive_release_all _

theorem drive_release (c m : Lines) : c &&& ~~~m ||| 0#9 &&& m = c &&& ~~~m := by simp

theorem drive_assert (c m : Lines) : c &&& ~~~m ||| m &&& m = c ||| m := by
  apply BitVec.eq_of_getLsbD_eq
  intro i hi
  simp only [BitVec.getLsbD_and, BitVec.getLsbD_or, BitVec.getLsbD_not, hi, decide_true, Bool.true_and]
  generalize BitVec.getLsbD c i = x
  generalize BitVec.getLsbD m i = y
  cases x <;> cases y <;> rfl

/-- A cause makes the status nonzero, so IRQ is asserted. -/
theorem or_cause_ne (x c : Byte) (hc : c ≠ 0x00#8) : (x ||| c != 0x00#8) = true := by
  simp [BitVec.or_eq_zero_iff, hc]

/-- `SendByte()` on a FIFO with a byte, outside Transfer Pad (R260). -/
theorem sendByte_some {s : State} {b : Byte} {rest : List Byte} (hc : s.coarse ≠ .initXfrSendPad)
    (hf : s.fifo = b :: rest) :
    sendByte s = halt { updateDrq { s with fifo := rest } with
      sub := some .sendWaitSettle, dataDrive := b, ctrlDrive := s.ctrlDrive ||| lineAck
      timer := some s.syncPeriod.toNat } := by
  unfold sendByte
  simp only [goSub, hc, hf, if_false, halt, delay, driveCtrl, driveData, fifoPop, fifoHead, updateDrq, drive_assert]
  simp [drqLevel]
  cases s.dmaDir <;> simp <;> exact ⟨rfl, rfl⟩

/-- `SendByte()` in Transfer Pad (R260). -/
theorem sendByte_pad {s : State} (hc : s.coarse = .initXfrSendPad) :
    sendByte s = halt { s with
      sub := some .sendWaitSettle, dataDrive := 0x00#8, ctrlDrive := s.ctrlDrive ||| lineAck
      timer := some s.syncPeriod.toNat } := by
  unfold sendByte
  simp only [goSub, hc, if_true, halt, delay, driveCtrl, driveData, drive_assert]

/-- `RecvByte()` (R263). -/
theorem recvByte_eq (s : State) : recvByte s = ({ s with sub := some .recvWaitReq1 }, some .signal) := rfl

end Sys2Proof.Machine
end

