-- ==== Sys2Proof/Laws/PerInstr.lean ====
section
/-! SUPPORT. One statement per instruction about its encoding: the access it encodes to is laid out as its own row of
spec/opcode_table.json says, in format, match and mask. -/

namespace Sys2Proof.Laws.RowMatch

/-- The formats of the table. -/
inductive Format
  | cmd8
  | regRd
  | regWr
  | dmaRd
  | dmaWr
  deriving DecidableEq, Repr

/-- A row of the table: its format, and the match and mask of its first word. -/
structure Row where
  format : Format
  pattern : Nat
  mask : Nat
  deriving DecidableEq, Repr

/-- The format an access is in. -/
def formatOf : Access → Format
  | .cmd _ => .cmd8
  | .regRead _ => .regRd
  | .regWrite _ _ => .regWr
  | .dmaRead => .dmaRd
  | .dmaWrite _ => .dmaWr

/-- The word of an access that the table's match and mask are about: the command byte, or the offset. -/
def wordOf : Access → Nat
  | .cmd v => v.toNat
  | .regRead off => off.toNat
  | .regWrite off _ => off.toNat
  | .dmaRead => 0
  | .dmaWrite _ => 0

/-- The row of an instruction, copied from the table. -/
def row : Instr → Row
  | .nop _ => ⟨.cmd8, 0x00, 0x7f⟩
  | .flush _ => ⟨.cmd8, 0x01, 0x7f⟩
  | .reset _ => ⟨.cmd8, 0x02, 0x7f⟩
  | .resetbus _ => ⟨.cmd8, 0x03, 0x7f⟩
  | .cmd04 _ => ⟨.cmd8, 0x04, 0x7f⟩
  | .xfer _ => ⟨.cmd8, 0x10, 0x7f⟩
  | .iccs _ => ⟨.cmd8, 0x11, 0x7f⟩
  | .msgacc _ => ⟨.cmd8, 0x12, 0x7f⟩
  | .pad _ => ⟨.cmd8, 0x18, 0x7f⟩
  | .setatn _ => ⟨.cmd8, 0x1a, 0x7f⟩
  | .resetatn _ => ⟨.cmd8, 0x1b, 0x7f⟩
  | .sendmsg _ => ⟨.cmd8, 0x20, 0x7f⟩
  | .sendstatus _ => ⟨.cmd8, 0x21, 0x7f⟩
  | .senddata _ => ⟨.cmd8, 0x22, 0x7f⟩
  | .discseq _ => ⟨.cmd8, 0x23, 0x7f⟩
  | .termseq _ => ⟨.cmd8, 0x24, 0x7f⟩
  | .tccs _ => ⟨.cmd8, 0x25, 0x7f⟩
  | .disconnect _ => ⟨.cmd8, 0x27, 0x7f⟩
  | .recvmsg _ => ⟨.cmd8, 0x28, 0x7f⟩
  | .recvcmd _ => ⟨.cmd8, 0x29, 0x7f⟩
  | .recvdata _ => ⟨.cmd8, 0x2a, 0x7f⟩
  | .recvcmdseq _ => ⟨.cmd8, 0x2b, 0x7f⟩
  | .reselect _ => ⟨.cmd8, 0x40, 0x7f⟩
  | .select _ => ⟨.cmd8, 0x41, 0x7f⟩
  | .selatn _ => ⟨.cmd8, 0x42, 0x7f⟩
  | .selatnstop _ => ⟨.cmd8, 0x43, 0x7f⟩
  | .ensel _ => ⟨.cmd8, 0x44, 0x7f⟩
  | .dissel _ => ⟨.cmd8, 0x45, 0x7f⟩
  | .selatn3 _ => ⟨.cmd8, 0x46, 0x7f⟩
  | .rdTclo => ⟨.regRd, 0x0, 0xf⟩
  | .rdTchi => ⟨.regRd, 0x1, 0xf⟩
  | .rdFifo => ⟨.regRd, 0x2, 0xf⟩
  | .rdCmd => ⟨.regRd, 0x3, 0xf⟩
  | .rdStat => ⟨.regRd, 0x4, 0xf⟩
  | .rdIstat => ⟨.regRd, 0x5, 0xf⟩
  | .rdSeq => ⟨.regRd, 0x6, 0xf⟩
  | .rdFflags => ⟨.regRd, 0x7, 0xf⟩
  | .rdConfig => ⟨.regRd, 0x8, 0xf⟩
  | .rdConfig2 => ⟨.regRd, 0xb, 0xf⟩
  | .rdConfig3 => ⟨.regRd, 0xc, 0xf⟩
  | .wrTclo _ => ⟨.regWr, 0x0, 0xf⟩
  | .wrTchi _ => ⟨.regWr, 0x1, 0xf⟩
  | .wrFifo _ => ⟨.regWr, 0x2, 0xf⟩
  | .wrCmd _ => ⟨.regWr, 0x3, 0xf⟩
  | .wrDest _ => ⟨.regWr, 0x4, 0xf⟩
  | .wrSelto _ => ⟨.regWr, 0x5, 0xf⟩
  | .wrSyncper _ => ⟨.regWr, 0x6, 0xf⟩
  | .wrSyncoff _ => ⟨.regWr, 0x7, 0xf⟩
  | .wrConfig _ => ⟨.regWr, 0x8, 0xf⟩
  | .wrCcf _ => ⟨.regWr, 0x9, 0xf⟩
  | .wrTest _ => ⟨.regWr, 0xa, 0xf⟩
  | .wrConfig2 _ => ⟨.regWr, 0xb, 0xf⟩
  | .wrConfig3 _ => ⟨.regWr, 0xc, 0xf⟩
  | .wrFalign _ => ⟨.regWr, 0xf, 0xf⟩
  | .dmard => ⟨.dmaRd, 0x0, 0x0⟩
  | .dmawr _ => ⟨.dmaWr, 0x0, 0x0⟩

/-- The instruction's encoding matches its row. -/
def Statement (i : Instr) : Prop :=
  formatOf (encode i) = (row i).format ∧ wordOf (encode i) &&& (row i).mask = (row i).pattern

/-- A command byte's code, as the table's mask reads it. -/
theorem byte_code (k : Cmd) (d : Bool) : (k.byte d).toNat &&& 0x7f = k.code.toNat := by
  cases k <;> cases d <;> decide

theorem nop (d : Bool) : Statement (.nop d) := ⟨rfl, byte_code .nop d⟩
theorem flush (d : Bool) : Statement (.flush d) := ⟨rfl, byte_code .flush d⟩
theorem reset (d : Bool) : Statement (.reset d) := ⟨rfl, byte_code .reset d⟩
theorem resetbus (d : Bool) : Statement (.resetbus d) := ⟨rfl, byte_code .resetbus d⟩
theorem cmd04 (d : Bool) : Statement (.cmd04 d) := ⟨rfl, byte_code .cmd04 d⟩
theorem xfer (d : Bool) : Statement (.xfer d) := ⟨rfl, byte_code .xfer d⟩
theorem iccs (d : Bool) : Statement (.iccs d) := ⟨rfl, byte_code .iccs d⟩
theorem msgacc (d : Bool) : Statement (.msgacc d) := ⟨rfl, byte_code .msgacc d⟩
theorem pad (d : Bool) : Statement (.pad d) := ⟨rfl, byte_code .pad d⟩
theorem setatn (d : Bool) : Statement (.setatn d) := ⟨rfl, byte_code .setatn d⟩
theorem resetatn (d : Bool) : Statement (.resetatn d) := ⟨rfl, byte_code .resetatn d⟩
theorem sendmsg (d : Bool) : Statement (.sendmsg d) := ⟨rfl, byte_code .sendmsg d⟩
theorem sendstatus (d : Bool) : Statement (.sendstatus d) := ⟨rfl, byte_code .sendstatus d⟩
theorem senddata (d : Bool) : Statement (.senddata d) := ⟨rfl, byte_code .senddata d⟩
theorem discseq (d : Bool) : Statement (.discseq d) := ⟨rfl, byte_code .discseq d⟩
theorem termseq (d : Bool) : Statement (.termseq d) := ⟨rfl, byte_code .termseq d⟩
theorem tccs (d : Bool) : Statement (.tccs d) := ⟨rfl, byte_code .tccs d⟩
theorem disconnect (d : Bool) : Statement (.disconnect d) := ⟨rfl, byte_code .disconnect d⟩
theorem recvmsg (d : Bool) : Statement (.recvmsg d) := ⟨rfl, byte_code .recvmsg d⟩
theorem recvcmd (d : Bool) : Statement (.recvcmd d) := ⟨rfl, byte_code .recvcmd d⟩
theorem recvdata (d : Bool) : Statement (.recvdata d) := ⟨rfl, byte_code .recvdata d⟩
theorem recvcmdseq (d : Bool) : Statement (.recvcmdseq d) := ⟨rfl, byte_code .recvcmdseq d⟩
theorem reselect (d : Bool) : Statement (.reselect d) := ⟨rfl, byte_code .reselect d⟩
theorem select (d : Bool) : Statement (.select d) := ⟨rfl, byte_code .select d⟩
theorem selatn (d : Bool) : Statement (.selatn d) := ⟨rfl, byte_code .selatn d⟩
theorem selatnstop (d : Bool) : Statement (.selatnstop d) := ⟨rfl, byte_code .selatnstop d⟩
theorem ensel (d : Bool) : Statement (.ensel d) := ⟨rfl, byte_code .ensel d⟩
theorem dissel (d : Bool) : Statement (.dissel d) := ⟨rfl, byte_code .dissel d⟩
theorem selatn3 (d : Bool) : Statement (.selatn3 d) := ⟨rfl, byte_code .selatn3 d⟩
theorem rdTclo : Statement .rdTclo := ⟨rfl, rfl⟩
theorem rdTchi : Statement .rdTchi := ⟨rfl, rfl⟩
theorem rdFifo : Statement .rdFifo := ⟨rfl, rfl⟩
theorem rdCmd : Statement .rdCmd := ⟨rfl, rfl⟩
theorem rdStat : Statement .rdStat := ⟨rfl, rfl⟩
theorem rdIstat : Statement .rdIstat := ⟨rfl, rfl⟩
theorem rdSeq : Statement .rdSeq := ⟨rfl, rfl⟩
theorem rdFflags : Statement .rdFflags := ⟨rfl, rfl⟩
theorem rdConfig : Statement .rdConfig := ⟨rfl, rfl⟩
theorem rdConfig2 : Statement .rdConfig2 := ⟨rfl, rfl⟩
theorem rdConfig3 : Statement .rdConfig3 := ⟨rfl, rfl⟩
theorem wrTclo (v : Byte) : Statement (.wrTclo v) := ⟨rfl, by simp [wordOf, encode, row]⟩
theorem wrTchi (v : Byte) : Statement (.wrTchi v) := ⟨rfl, by simp [wordOf, encode, row]⟩
theorem wrFifo (v : Byte) : Statement (.wrFifo v) := ⟨rfl, by simp [wordOf, encode, row]⟩
theorem wrCmd (v : Byte) : Statement (.wrCmd v) := ⟨rfl, by simp [wordOf, encode, row]⟩
theorem wrDest (v : Byte) : Statement (.wrDest v) := ⟨rfl, by simp [wordOf, encode, row]⟩
theorem wrSelto (v : Byte) : Statement (.wrSelto v) := ⟨rfl, by simp [wordOf, encode, row]⟩
theorem wrSyncper (v : Byte) : Statement (.wrSyncper v) := ⟨rfl, by simp [wordOf, encode, row]⟩
theorem wrSyncoff (v : Byte) : Statement (.wrSyncoff v) := ⟨rfl, by simp [wordOf, encode, row]⟩
theorem wrConfig (v : Byte) : Statement (.wrConfig v) := ⟨rfl, by simp [wordOf, encode, row]⟩
theorem wrCcf (v : Byte) : Statement (.wrCcf v) := ⟨rfl, by simp [wordOf, encode, row]⟩
theorem wrTest (v : Byte) : Statement (.wrTest v) := ⟨rfl, by simp [wordOf, encode, row]⟩
theorem wrConfig2 (v : Byte) : Statement (.wrConfig2 v) := ⟨rfl, by simp [wordOf, encode, row]⟩
theorem wrConfig3 (v : Byte) : Statement (.wrConfig3 v) := ⟨rfl, by simp [wordOf, encode, row]⟩
theorem wrFalign (v : Byte) : Statement (.wrFalign v) := ⟨rfl, by simp [wordOf, encode, row]⟩
theorem dmard : Statement .dmard := ⟨rfl, rfl⟩
theorem dmawr (v : Byte) : Statement (.dmawr v) := ⟨rfl, by simp [wordOf, encode, row]⟩

end Sys2Proof.Laws.RowMatch
end

