-- ==== Sys2Proof/Laws/Sequencer.lean ====
section
/-! SUPPORT. One invocation of the sequencer and its chain, said once: what a held connection, a released one and a
tail call come to. -/

namespace Sys2Proof.Machine

/-- The connection holds: the controller is no initiator, or the target asserts BSY (R234). -/
def connected (s : State) : Prop := ¬(s.mode = .initiator ∧ asserted (busCtrl s) lineBsy = false)

theorem connected_of_bsy {s : State} (h : asserted (busCtrl s) lineBsy = true) : connected s := by simp [connected, h]

theorem connected_of_mode {s : State} (h : s.mode ≠ .initiator) : connected s := by simp [connected, h]

/-- On a connection that holds, the invocation goes straight to its sub-state. -/
theorem stepOnce_sub {r : Reason} {s : State} {u : Sub} (hc : connected s) (hu : s.sub = some u) :
    stepOnce r s = dispatchSub u r (busCtrl s) (busData s) s := by
  have h : disconnectCheck (busCtrl s) s = s := if_neg hc
  simp only [stepOnce, h, hu]

/-- Or to its coarse state. -/
theorem stepOnce_coarse {r : Reason} {s : State} (hc : connected s) (hu : s.sub = none) :
    stepOnce r s = dispatchCoarse s.coarse (busCtrl s) s := by
  have h : disconnectCheck (busCtrl s) s = s := if_neg hc
  simp only [stepOnce, h, hu]

/-- Or to the coarse state it is known to be in. -/
theorem stepOnce_at {r : Reason} {s : State} {c : Coarse} (hc : connected s) (hu : s.sub = none) (h : s.coarse = c) :
    stepOnce r s = dispatchCoarse c (busCtrl s) s := by rw [stepOnce_coarse hc hu, h]

/-- On a released one it ends the connection and does nothing more (R234, R236). -/
theorem stepOnce_released {r : Reason} {s : State} (hc : ¬connected s) :
    stepOnce r s = (resetDisconnect (setCause causeDis (goIdle s)), none) := by
  have h : disconnectCheck (busCtrl s) s = resetDisconnect (setCause causeDis (goIdle s)) :=
    if_pos (Classical.not_not.mp hc)
  have hs : (resetDisconnect (setCause causeDis (goIdle s))).sub = none := by simp
  have hc : (resetDisconnect (setCause causeDis (goIdle s))).coarse = .idle := by simp
  simp only [stepOnce, h, hs, hc, dispatchCoarse, halt]

/-- A chain ends where its invocation does. -/
theorem stepChain_halt {n : Nat} {r : Reason} {s t : State} (h : stepOnce r s = (t, none)) :
    stepChain (n + 1) r s = t := by simp [stepChain, h]

/-- A chain goes on where its invocation tail-calls. -/
theorem stepChain_again {n : Nat} {r r' : Reason} {s t : State} (h : stepOnce r s = (t, some r')) :
    stepChain (n + 1) r s = stepChain n r' t := by simp [stepChain, h]

theorem seqStep_halt {r : Reason} {s t : State} (h : stepOnce r s = (t, none)) : seqStep r s = t := stepChain_halt h

theorem seqStep_again {r r' : Reason} {s t : State} (h : stepOnce r s = (t, some r')) :
    seqStep r s = stepChain 5 r' t := stepChain_again h

end Sys2Proof.Machine
end

