-- ==== Sys2Proof/Laws/Untouched.lean ====
section
/-! SUPPORT. The frame of the sequencer, said once: `untouched` is what no invocation writes, every operation the handlers
are built from keeps it, so the whole chain does. -/

namespace Sys2Proof.Machine

/-- What no invocation of the sequencer touches: `s` with every field the sequencer may write put back to its reset
value. -/
def untouched (s : State) : State :=
  { s with
    cmdCount := 0, fifo := [], tcounter := 0#16, tc := false, istatus := 0x00#8, seq := 0#3, mode := .disconnected
    coarse := .idle, sub := none, dmaDir := .off, commandLength := 0, irq := false, drq := false, timer := none
    ctrlDrive := 0#9, dataDrive := 0x00#8, fault := none, notices := [], draws := 0 }

@[simp] theorem untouched_updateIrq (s : State) : untouched (updateIrq s) = untouched s := rfl
@[simp] theorem untouched_updateDrq (s : State) : untouched (updateDrq s) = untouched s := rfl
@[simp] theorem untouched_setCause (c : Byte) (s : State) : untouched (setCause c s) = untouched s := by
  rw [setCause, untouched_updateIrq]; rfl
@[simp] theorem untouched_driveCtrl (v m : Lines) (s : State) : untouched (driveCtrl v m s) = untouched s := rfl
@[simp] theorem untouched_driveData (v : Byte) (s : State) : untouched (driveData v s) = untouched s := rfl
@[simp] theorem untouched_delay (n : Nat) (s : State) : untouched (delay n s) = untouched s := rfl
@[simp] theorem untouched_fifoPush (b : Byte) (s : State) : untouched (fifoPush b s) = untouched s := rfl
@[simp] theorem untouched_fifoPop (s : State) : untouched (fifoPop s) = untouched s := rfl
@[simp] theorem untouched_raise (k : Fault) (s : State) : untouched (raise k s) = untouched s := rfl
@[simp] theorem untouched_goIdle (s : State) : untouched (goIdle s) = untouched s := rfl
@[simp] theorem untouched_goSub (u : Sub) (s : State) : untouched (goSub u s) = untouched s := rfl
@[simp] theorem untouched_endSub (s : State) : untouched (endSub s) = untouched s := rfl
@[simp] theorem untouched_goCoarse (c : Coarse) (s : State) : untouched (goCoarse c s) = untouched s := rfl
@[simp] theorem untouched_complete (c : Byte) (s : State) : untouched (complete c s) = untouched s := by
  rw [complete, untouched_updateDrq]
  exact (untouched_setCause c (goIdle s)).trans (untouched_goIdle s)
@[simp] theorem untouched_functionComplete (s : State) : untouched (functionComplete s) = untouched s :=
  untouched_complete causeFc s
@[simp] theorem untouched_busComplete (s : State) : untouched (busComplete s) = untouched s :=
  untouched_complete causeBs s
@[simp] theorem untouched_resetDisconnect (s : State) : untouched (resetDisconnect s) = untouched s := by
  rw [resetDisconnect, untouched_updateDrq]
  exact (untouched_driveData 0x00#8 (driveCtrl 0#9 allLines s)).trans (untouched_driveCtrl 0#9 allLines s)
@[simp] theorem untouched_decrementTcounter (s : State) : untouched (decrementTcounter s) = untouched s := by
  unfold decrementTcounter; split <;> rfl
@[simp] theorem untouched_disconnectCheck (c : Lines) (s : State) : untouched (disconnectCheck c s) = untouched s := by
  unfold disconnectCheck; split <;> simp
@[simp] theorem untouched_sendByte (s : State) : untouched (sendByte s).1 = untouched s := by
  unfold sendByte; simp only [halt]
  split
  · simp
  · split <;> simp
@[simp] theorem untouched_recvByte (s : State) : untouched (recvByte s).1 = untouched s := rfl

theorem untouched_dispatchSub (u : Sub) (r : Reason) (ctrl : Lines) (data : Byte) (s : State) :
    untouched (dispatchSub u r ctrl data s).1 = untouched s := by
  cases u <;> cases r <;>
    simp only [dispatchSub, onTimeout, arbComplete, arbAssertSel, arbSetDest, arbReleaseBusy, arbTimeoutBusy,
      arbTimeoutAbort, arbDeskew, arbDeskewWait, sendWaitSettle, sendWaitReq0, recvWaitReq1, recvWaitSettle,
      recvWaitReq0, halt, stepAgain] <;>
    (repeat' split) <;> (try simp) <;> rfl

theorem untouched_dispatchCoarse (c : Coarse) (ctrl : Lines) (s : State) :
    untouched (dispatchCoarse c ctrl s).1 = untouched s := by
  cases c <;>
    simp only [dispatchCoarse, discSelArbitrationInit, discSelArbitration, discSelAtnWaitReq, discSelAtnSendByte,
      discSelWaitReq, discSelSendByte, initXfr, initXfrSendByte, initXfrRecvByteAck, initXfrRecvByteNack,
      initXfrWaitReq, initXfrFunctionComplete, initXfrBusComplete, initCptRecvByteAck, initCptRecvWaitReq,
      initCptRecvByteNack, initMsgWaitReq, initXfrSendPadWaitReq, initXfrSendPad, initXfrRecvPadWaitReq,
      initXfrRecvPad, halt, stepAgain] <;>
    (repeat' split) <;> simp <;> rfl

theorem untouched_stepOnce (r : Reason) (s : State) : untouched (stepOnce r s).1 = untouched s := by
  unfold stepOnce
  simp only
  split
  · rw [untouched_dispatchSub, untouched_disconnectCheck]
  · rw [untouched_dispatchCoarse, untouched_disconnectCheck]

/-- A property every invocation keeps, and a cut chain too, is kept by the sequencer. -/
theorem seqStep_keeps {P : State → Prop} (hs : ∀ r s, P s → P (stepOnce r s).1)
    (hb : ∀ s, P s → P (raise .badState s)) {s : State} (h : P s) (r : Reason) : P (seqStep r s) := by
  have hn : ∀ n r s, P s → P (stepChain n r s) := by
    intro n
    induction n with
    | zero => intro r s h; exact hb s h
    | succ n ih =>
      intro r s h
      have h1 := hs r s h
      unfold stepChain
      split
      · rename_i t e
        rw [e] at h1
        exact h1
      · rename_i t r' e
        rw [e] at h1
        exact ih _ _ h1
  exact hn 6 r s h

theorem untouched_seqStep (r : Reason) (s : State) : untouched (seqStep r s) = untouched s :=
  seqStep_keeps (P := fun t => untouched t = untouched s)
    (fun r t h => (untouched_stepOnce r t).trans h) (fun t h => (untouched_raise .badState t).trans h) rfl r

end Sys2Proof.Machine
end

