-- ==== Sys2Proof/Laws/Queue.lean ====
section
/-! SUPPORT. What the sequencer can do to the command queue, said once: it keeps it, or a disconnect empties it
(R234, R235, R256). -/

namespace Sys2Proof.Machine

/-- The connection of `s` has ended in `t`: a target that let go of BSY (R234, R235), or one that never answered
(R256). -/
structure Ended (s t : State) : Prop where
  free : asserted s.envCtrl lineBsy = false
  mode : t.mode = .disconnected
  coarse : t.coarse = .idle
  sub : t.sub = none
  dmaDir : t.dmaDir = .off
  ctrlDrive : t.ctrlDrive = 0#9
  dataDrive : t.dataDrive = 0x00#8
  cmdCount : t.cmdCount = 0
  cause : ((s.mode = .initiator ∨ s.sub = some .arbDeskewWait) ∧ t.istatus = s.istatus ||| causeDis) ∨
    (s.sub = some .arbTimeoutAbort ∧ t.istatus = s.istatus ||| selTimeoutCause s)

/-- A line nobody drives is not driven by the others. -/
theorem env_free {s : State} {l : Lines} (h : asserted (busCtrl s) l = false) : asserted s.envCtrl l = false := by
  cases he : asserted s.envCtrl l
  · rfl
  · rw [busCtrl, asserted_or he] at h
    exact h

/-- What a tail call takes along: the queue, the causes and, but for the answer to a selection, the mode. -/
structure Carried (s t : State) : Prop where
  istatus : t.istatus = s.istatus
  cmdCount : t.cmdCount = s.cmdCount
  mode : t.mode = s.mode ∨ s.sub = some .arbDeskewWait
  notDeskew : t.sub ≠ some .arbDeskewWait
  notAbort : t.sub ≠ some .arbTimeoutAbort

theorem carried_dispatchSub {u : Sub} {r r' : Reason} {ctrl : Lines} {data : Byte} {s t : State} (hu : s.sub = some u)
    (h : dispatchSub u r ctrl data s = (t, some r')) : Carried s t := by
  cases u <;> cases r <;>
    simp only [dispatchSub, onTimeout, arbComplete, arbAssertSel, arbSetDest, arbReleaseBusy, arbTimeoutBusy,
      arbTimeoutAbort, arbDeskew, arbDeskewWait, sendWaitSettle, sendWaitReq0, recvWaitReq1, recvWaitSettle,
      recvWaitReq0, halt, stepAgain] at h <;>
    (repeat' split at h) <;> (first | (cases h; done) | skip) <;>
    · simp only [Prod.mk.injEq, Option.some.injEq] at h
      obtain ⟨rfl, rfl⟩ := h
      constructor <;> simp [hu, goSub, endSub]

theorem carried_dispatchCoarse {c : Coarse} {r' : Reason} {ctrl : Lines} {s t : State} (hn : s.sub = none)
    (h : dispatchCoarse c ctrl s = (t, some r')) : Carried s t := by
  cases c <;>
    simp only [dispatchCoarse, discSelArbitrationInit, discSelArbitration, discSelAtnWaitReq, discSelAtnSendByte,
      discSelWaitReq, discSelSendByte, initXfr, initXfrSendByte, initXfrRecvByteAck, initXfrRecvByteNack,
      initXfrWaitReq, initXfrFunctionComplete, initXfrBusComplete, initCptRecvByteAck, initCptRecvWaitReq,
      initCptRecvByteNack, initMsgWaitReq, initXfrSendPadWaitReq, initXfrSendPad, initXfrRecvPadWaitReq,
      initXfrRecvPad, halt, stepAgain, recvByte, sendByte] at h <;>
    (repeat' split at h) <;> (first | (cases h; done) | skip) <;>
    · simp only [Prod.mk.injEq, Option.some.injEq] at h
      obtain ⟨rfl, rfl⟩ := h
      constructor <;> simp [hn, goCoarse, goSub]

/-- A connection cut off at its end: the cause, every line released, the queue empty. -/
theorem ended_resetDisconnect {s t : State} {c : Byte} (hf : asserted s.envCtrl lineBsy = false)
    (ht : t.istatus = s.istatus)
    (hc : ((s.mode = .initiator ∨ s.sub = some .arbDeskewWait) ∧ c = causeDis) ∨
      (s.sub = some .arbTimeoutAbort ∧ c = selTimeoutCause s)) :
    Ended s (resetDisconnect (setCause c (goIdle t))) := by
  refine ⟨hf, by simp, by simp, by simp, by simp, by simp, by simp, by simp, ?_⟩
  rcases hc with ⟨h, rfl⟩ | ⟨h, rfl⟩
  · exact .inl ⟨h, by simp [ht]⟩
  · exact .inr ⟨h, by simp [ht]⟩

theorem queue_dispatchSub {u : Sub} {r : Reason} {data : Byte} {s : State} (hu : s.sub = some u) :
    (dispatchSub u r (busCtrl s) data s).1.cmdCount = s.cmdCount ∨
      Ended s (dispatchSub u r (busCtrl s) data s).1 := by
  by_cases ha : u = .arbTimeoutAbort ∧ r = .timeout ∧ asserted (busCtrl s) lineBsy = false
  · obtain ⟨rfl, rfl, hb⟩ := ha
    right
    simp only [dispatchSub, onTimeout, arbTimeoutAbort, hb]
    exact ended_resetDisconnect (env_free hb) rfl (.inr ⟨hu, rfl⟩)
  · left
    cases u <;> cases r <;>
      simp only [dispatchSub, onTimeout, arbComplete, arbAssertSel, arbSetDest, arbReleaseBusy, arbTimeoutBusy,
        arbTimeoutAbort, arbDeskew, arbDeskewWait, sendWaitSettle, sendWaitReq0, recvWaitReq1, recvWaitSettle,
        recvWaitReq0, halt, stepAgain] <;>
      (repeat' split) <;> simp_all [goSub, endSub]

theorem queue_dispatchCoarse (c : Coarse) (ctrl : Lines) (s : State) :
    (dispatchCoarse c ctrl s).1.cmdCount = s.cmdCount := by
  cases c <;>
    simp only [dispatchCoarse, discSelArbitrationInit, discSelArbitration, discSelAtnWaitReq, discSelAtnSendByte,
      discSelWaitReq, discSelSendByte, initXfr, initXfrSendByte, initXfrRecvByteAck, initXfrRecvByteNack,
      initXfrWaitReq, initXfrFunctionComplete, initXfrBusComplete, initCptRecvByteAck, initCptRecvWaitReq,
      initCptRecvByteNack, initMsgWaitReq, initXfrSendPadWaitReq, initXfrSendPad, initXfrRecvPadWaitReq,
      initXfrRecvPad, halt, stepAgain, recvByte, sendByte] <;>
    (repeat' split) <;> simp [goCoarse, goSub]

/-- One invocation keeps the queue, or the connection has ended with it. -/
theorem queue_stepOnce (r : Reason) (s : State) :
    (stepOnce r s).1.cmdCount = s.cmdCount ∨ Ended s (stepOnce r s).1 := by
  by_cases hc : connected s
  · cases hs : s.sub with
    | some u =>
      rw [stepOnce_sub hc hs]
      exact queue_dispatchSub hs
    | none =>
      rw [stepOnce_coarse hc hs]
      exact .inl (queue_dispatchCoarse _ _ _)
  · rw [stepOnce_released hc]
    obtain ⟨hm, hb⟩ := Classical.not_not.mp hc
    exact .inr (ended_resetDisconnect (env_free hb) rfl (.inl ⟨.inl hm, rfl⟩))

/-- What an invocation tail-calls `Step` on. -/
theorem carried_stepOnce {r r' : Reason} {s t : State} (h : stepOnce r s = (t, some r')) : Carried s t := by
  by_cases hc : connected s
  · cases hs : s.sub with
    | some u => exact carried_dispatchSub hs ((stepOnce_sub hc hs).symm.trans h)
    | none => exact carried_dispatchCoarse hs ((stepOnce_coarse hc hs).symm.trans h)
  · rw [stepOnce_released hc] at h
    cases h

theorem envCtrl_stepOnce (r : Reason) (s : State) : (stepOnce r s).1.envCtrl = s.envCtrl := by
  have h := congrArg State.envCtrl (untouched_stepOnce r s)
  exact h

/-- An end seen from the state a tail call goes to is one seen from where it came. -/
theorem Ended.back {r r' : Reason} {s t u : State} (h : stepOnce r s = (t, some r')) (e : Ended t u) : Ended s u := by
  have c := carried_stepOnce h
  have he : t.envCtrl = s.envCtrl := by simpa [h] using envCtrl_stepOnce r s
  refine ⟨he ▸ e.free, e.mode, e.coarse, e.sub, e.dmaDir, e.ctrlDrive, e.dataDrive, e.cmdCount, ?_⟩
  rcases e.cause with ⟨hm, hi⟩ | ⟨ha, _⟩
  · refine .inl ⟨?_, hi.trans (by rw [c.istatus])⟩
    rcases hm with hm | hd
    · rcases c.mode with hsm | hsd
      · exact .inl (hsm.symm.trans hm)
      · exact .inr hsd
    · exact absurd hd c.notDeskew
  · exact absurd ha c.notAbort

/-- `Step` keeps the queue, or the connection has ended with it. -/
theorem queue_seqStep (r : Reason) (s : State) : (seqStep r s).cmdCount = s.cmdCount ∨ Ended s (seqStep r s) := by
  have hn : ∀ n r s, (stepChain n r s).cmdCount = s.cmdCount ∨ Ended s (stepChain n r s) := by
    intro n
    induction n with
    | zero => intro r s; exact .inl rfl
    | succ n ih =>
      intro r s
      rcases hs : stepOnce r s with ⟨t, _ | r'⟩
      · rw [stepChain_halt hs]
        simpa [hs] using queue_stepOnce r s
      · rw [stepChain_again hs]
        rcases ih r' t with h | h
        · exact .inl (h.trans (carried_stepOnce hs).cmdCount)
        · exact .inr (h.back hs)
  exact hn 6 r s

end Sys2Proof.Machine
end

