-- ==== Sys2Proof/Laws/Rank.lean ====
section
/-! SUPPORT. A tail call of the sequencer goes to a state of lower rank, so the bound on a chain is never met: what an
invocation tail-calls, the whole of `Step` runs (R10, R231). -/

namespace Sys2Proof.Machine

/-- The invocations a chain can take from a coarse state. -/
def Coarse.rank : Coarse → Nat
  | .discSelArbitrationInit => 3
  | .discSelArbitration => 2
  | .initXfr => 2
  | .initXfrSendByte => 4
  | .initXfrRecvByteNack => 2
  | .initXfrWaitReq => 3
  | .initCptRecvWaitReq => 2
  | .initXfrSendPad => 2
  | .initXfrRecvPadWaitReq => 2
  | .initXfrRecvPad => 3
  | _ => 1

/-- The invocations a chain can take from a sub-state, whatever the coarse state under it. -/
def Sub.rank : Sub → Nat
  | .arbDeskewWait => 5
  | .sendWaitSettle => 6
  | .sendWaitReq0 => 5
  | .recvWaitSettle => 6
  | .recvWaitReq0 => 5
  | _ => 1

/-- The invocations a chain can take from a sub-state, or from a coarse state without one. -/
def rankOf : Option Sub → Coarse → Nat
  | some u, _ => u.rank
  | none, c => c.rank

/-- The invocations a chain can take from a state. -/
def rank (s : State) : Nat := rankOf s.sub s.coarse

theorem Coarse.rank_le (c : Coarse) : c.rank ≤ 4 := by cases c <;> decide

theorem rankOf_le (u : Option Sub) (c : Coarse) : rankOf u c ≤ 6 := by
  cases u with
  | none => exact Nat.le_trans c.rank_le (by decide)
  | some u => cases u <;> simp only [rankOf, Sub.rank] <;> decide

theorem rank_le (s : State) : rank s ≤ 6 := rankOf_le s.sub s.coarse

theorem rank_pos (s : State) : 0 < rank s := by
  unfold rank rankOf
  split
  · rename_i u _; cases u <;> decide
  · cases s.coarse <;> decide

theorem rank_dispatchSub {u : Sub} {r r' : Reason} {ctrl : Lines} {data : Byte} {s t : State}
    (h : dispatchSub u r ctrl data s = (t, some r')) : rank t < u.rank := by
  cases u <;> cases r <;>
    simp only [dispatchSub, onTimeout, arbComplete, arbAssertSel, arbSetDest, arbReleaseBusy, arbTimeoutBusy,
      arbTimeoutAbort, arbDeskew, arbDeskewWait, sendWaitSettle, sendWaitReq0, recvWaitReq1, recvWaitSettle,
      recvWaitReq0, halt, stepAgain] at h <;>
    (repeat' split at h) <;> (first | (cases h; done) | skip) <;>
    · simp only [Prod.mk.injEq, Option.some.injEq] at h
      obtain ⟨rfl, rfl⟩ := h
      first | exact Nat.lt_of_le_of_lt (Coarse.rank_le _) (by decide) | exact (by decide : (5 : Nat) < 6)

theorem rank_dispatchCoarse {c : Coarse} {r' : Reason} {ctrl : Lines} {s t : State} (hn : s.sub = none)
    (h : dispatchCoarse c ctrl s = (t, some r')) : rank t < c.rank := by
  cases c <;>
    simp only [dispatchCoarse, discSelArbitrationInit, discSelArbitration, discSelAtnWaitReq, discSelAtnSendByte,
      discSelWaitReq, discSelSendByte, initXfr, initXfrSendByte, initXfrRecvByteAck, initXfrRecvByteNack,
      initXfrWaitReq, initXfrFunctionComplete, initXfrBusComplete, initCptRecvByteAck, initCptRecvWaitReq,
      initCptRecvByteNack, initMsgWaitReq, initXfrSendPadWaitReq, initXfrSendPad, initXfrRecvPadWaitReq,
      initXfrRecvPad, halt, stepAgain, recvByte, sendByte] at h <;>
    (repeat' split at h) <;> (first | (cases h; done) | skip) <;>
    · simp only [Prod.mk.injEq, Option.some.injEq] at h
      obtain ⟨rfl, rfl⟩ := h
      simp [rank, rankOf, hn, Coarse.rank, Sub.rank, goCoarse, goSub]

/-- An invocation tail-calls `Step` on a state of lower rank only. -/
theorem rank_stepOnce {r r' : Reason} {s t : State} (h : stepOnce r s = (t, some r')) : rank t < rank s := by
  by_cases hc : connected s
  · unfold rank
    cases hs : s.sub with
    | some u => exact rank_dispatchSub ((stepOnce_sub hc hs).symm.trans h)
    | none => exact rank_dispatchCoarse hs ((stepOnce_coarse hc hs).symm.trans h)
  · rw [stepOnce_released hc] at h
    cases h

/-- A chain with room for its rank is not cut off: more room changes nothing. -/
theorem stepChain_succ {n : Nat} : ∀ {r : Reason} {s : State}, rank s ≤ n →
    stepChain (n + 1) r s = stepChain n r s := by
  induction n with
  | zero => intro r s h; exact absurd (rank_pos s) (by omega)
  | succ n ih =>
    intro r s h
    rw [stepChain, stepChain]
    split
    · rfl
    · rename_i t r' e
      exact ih (by have := rank_stepOnce e; omega)

/-- A tail call of `Step` is `Step` (R231). -/
theorem seqStep_tail {r r' : Reason} {s t : State} (h : stepOnce r s = (t, some r')) : seqStep r s = seqStep r' t := by
  have hr := rank_stepOnce h
  have hs := rank_le s
  rw [seqStep_again h]
  exact (stepChain_succ (by omega)).symm

end Sys2Proof.Machine
end

