-- ==== Sys2Proof/Tests/Slice0.lean ====
section
/-! SUPPORT. Tests of one step each against the vectors of 95_test_vectors.md (named in the comments), the decoding of
every constructor from a word written out from R150, R152 and R170, the ill-formed instruction of each check, and, for
every obligation with hypotheses, states that meet them. -/

namespace Sys2Proof.Tests

open Sys2Proof Sys2Proof.Machine

/-! ### Decoding: D, group, sub-opcode (R150) and code (R152), offset (R170) -/

theorem test_decode_group0 :
    decode (.cmd 0b0_000_0000#8) = .ok (.nop false) ∧ decode (.cmd 0b1_000_0000#8) = .ok (.nop true) ∧
    decode (.cmd 0b0_000_0001#8) = .ok (.flush false) ∧ decode (.cmd 0b0_000_0010#8) = .ok (.reset false) ∧
    decode (.cmd 0b1_000_0011#8) = .ok (.resetbus true) ∧ decode (.cmd 0b0_000_0100#8) = .ok (.cmd04 false) :=
  ⟨rfl, rfl, rfl, rfl, rfl, rfl⟩

theorem test_decode_group1 :
    decode (.cmd 0b1_001_0000#8) = .ok (.xfer true) ∧ decode (.cmd 0b0_001_0001#8) = .ok (.iccs false) ∧
    decode (.cmd 0b0_001_0010#8) = .ok (.msgacc false) ∧ decode (.cmd 0b1_001_1000#8) = .ok (.pad true) ∧
    decode (.cmd 0b0_001_1010#8) = .ok (.setatn false) ∧ decode (.cmd 0b0_001_1011#8) = .ok (.resetatn false) :=
  ⟨rfl, rfl, rfl, rfl, rfl, rfl⟩

theorem test_decode_group2 :
    decode (.cmd 0b0_010_0000#8) = .ok (.sendmsg false) ∧ decode (.cmd 0b0_010_0001#8) = .ok (.sendstatus false) ∧
    decode (.cmd 0b1_010_0010#8) = .ok (.senddata true) ∧ decode (.cmd 0b0_010_0011#8) = .ok (.discseq false) ∧
    decode (.cmd 0b0_010_0100#8) = .ok (.termseq false) ∧ decode (.cmd 0b0_010_0101#8) = .ok (.tccs false) ∧
    decode (.cmd 0b0_010_0111#8) = .ok (.disconnect false) ∧ decode (.cmd 0b0_010_1000#8) = .ok (.recvmsg false) ∧
    decode (.cmd 0b0_010_1001#8) = .ok (.recvcmd false) ∧ decode (.cmd 0b1_010_1010#8) = .ok (.recvdata true) ∧
    decode (.cmd 0b0_010_1011#8) = .ok (.recvcmdseq false) :=
  ⟨rfl, rfl, rfl, rfl, rfl, rfl, rfl, rfl, rfl, rfl, rfl⟩

theorem test_decode_group4 :
    decode (.cmd 0b0_100_0000#8) = .ok (.reselect false) ∧ decode (.cmd 0b1_100_0001#8) = .ok (.select true) ∧
    decode (.cmd 0b0_100_0010#8) = .ok (.selatn false) ∧ decode (.cmd 0b0_100_0011#8) = .ok (.selatnstop false) ∧
    decode (.cmd 0b0_100_0100#8) = .ok (.ensel false) ∧ decode (.cmd 0b0_100_0101#8) = .ok (.dissel false) ∧
    decode (.cmd 0b0_100_0110#8) = .ok (.selatn3 false) :=
  ⟨rfl, rfl, rfl, rfl, rfl, rfl, rfl⟩

theorem test_decode_reads :
    decode (.regRead 0x0#4) = .ok .rdTclo ∧ decode (.regRead 0x1#4) = .ok .rdTchi ∧
    decode (.regRead 0x2#4) = .ok .rdFifo ∧ decode (.regRead 0x3#4) = .ok .rdCmd ∧
    decode (.regRead 0x4#4) = .ok .rdStat ∧ decode (.regRead 0x5#4) = .ok .rdIstat ∧
    decode (.regRead 0x6#4) = .ok .rdSeq ∧ decode (.regRead 0x7#4) = .ok .rdFflags ∧
    decode (.regRead 0x8#4) = .ok .rdConfig ∧ decode (.regRead 0xb#4) = .ok .rdConfig2 ∧
    decode (.regRead 0xc#4) = .ok .rdConfig3 :=
  ⟨rfl, rfl, rfl, rfl, rfl, rfl, rfl, rfl, rfl, rfl, rfl⟩

theorem test_decode_writes :
    decode (.regWrite 0x0#4 0x12#8) = .ok (.wrTclo 0x12#8) ∧ decode (.regWrite 0x1#4 0x34#8) = .ok (.wrTchi 0x34#8) ∧
    decode (.regWrite 0x2#4 0x11#8) = .ok (.wrFifo 0x11#8) ∧ decode (.regWrite 0x3#4 0x26#8) = .ok (.wrCmd 0x26#8) ∧
    decode (.regWrite 0x4#4 0x03#8) = .ok (.wrDest 0x03#8) ∧ decode (.regWrite 0x5#4 0x93#8) = .ok (.wrSelto 0x93#8) ∧
    decode (.regWrite 0x6#4 0xff#8) = .ok (.wrSyncper 0xff#8) ∧
    decode (.regWrite 0x7#4 0x0f#8) = .ok (.wrSyncoff 0x0f#8) ∧
    decode (.regWrite 0x8#4 0x47#8) = .ok (.wrConfig 0x47#8) ∧ decode (.regWrite 0x9#4 0xfa#8) = .ok (.wrCcf 0xfa#8) ∧
    decode (.regWrite 0xa#4 0x01#8) = .ok (.wrTest 0x01#8) ∧
    decode (.regWrite 0xb#4 0x55#8) = .ok (.wrConfig2 0x55#8) ∧
    decode (.regWrite 0xc#4 0x55#8) = .ok (.wrConfig3 0x55#8) ∧
    decode (.regWrite 0xf#4 0x80#8) = .ok (.wrFalign 0x80#8) :=
  ⟨rfl, rfl, rfl, rfl, rfl, rfl, rfl, rfl, rfl, rfl, rfl, rfl, rfl, rfl⟩

theorem test_decode_dma : decode .dmaRead = .ok .dmard ∧ decode (.dmaWrite 0x24#8) = .ok (.dmawr 0x24#8) := ⟨rfl, rfl⟩

/-- Reserved codes and offsets are rejected by name: 0x05 (group 0), 0x26 (G-3), 0x30 (group 3), offset 0xd (RG14). -/
theorem test_decode_rejects :
    decode (.cmd 0x05#8) = .error (.notACommand 0x05#8) ∧ decode (.cmd 0x26#8) = .error (.notACommand 0x26#8) ∧
    decode (.cmd 0xb0#8) = .error (.notACommand 0xb0#8) ∧ decode (.regRead 0xd#4) = .error (.unmappedRead 0xd#4) ∧
    decode (.regWrite 0xe#4 0x01#8) = .error (.unmappedWrite 0xe#4 0x01#8) :=
  ⟨rfl, rfl, rfl, rfl, rfl⟩

/-- The host's entry: a command byte, a read, a write with its data byte, the DMA port. -/
theorem test_table_word :
    decodeTableWord 8 0x42 = some (.selatn false) ∧ decodeTableWord 8 0x05 = some .rdIstat ∧
    decodeTableWord 16 0x4708 = some (.wrConfig 0x47#8) ∧ decodeTableWord 8 0x09 = some (.wrCcf 0x00#8) ∧
    decodeTableWord 0 0 = some .dmard ∧ decodeTableWord 8 0x26 = none :=
  ⟨rfl, rfl, rfl, rfl, rfl, rfl⟩

/-! ### Well-formedness: one ill-formed instruction per check (R152, R170) -/

theorem test_ill_formed_ncr5390 :
    (Instr.cmd04 false).wellFormed .ncr5390 = false ∧ (Instr.selatn3 true).wellFormed .ncr5390 = false ∧
    Instr.rdConfig2.wellFormed .ncr5390 = false ∧ (Instr.wrConfig2 0x55#8).wellFormed .ncr5390 = false :=
  ⟨rfl, rfl, rfl, rfl⟩

theorem test_ill_formed_ncr53c90a :
    Instr.rdConfig3.wellFormed .ncr53c90a = false ∧ (Instr.wrConfig3 0x55#8).wellFormed .ncr53c90a = false ∧
    (Instr.wrFalign 0x01#8).wellFormed .ncr53c90a = false ∧ Instr.rdConfig2.wellFormed .ncr53c90a = true :=
  ⟨rfl, rfl, rfl, rfl⟩

/-! ### Helpers -/

/-- The state after one event, if there is one. -/
def after (e : Event) (s : State) : Option State :=
  match step { s with events := [e] } with
  | .next t => some t
  | .fault _ => none
  | .refused _ => none

/-- A host write, a host read. -/
def wr (off : Offset) (v : Byte) : Event := .access (.regWrite off v)
def rd (off : Offset) : Event := .access (.regRead off)

/-- The device after hard reset, of a variant. -/
def device (v : Config.Variant) : State := { State.reset with params := { Config.defaults with variant := v } }

/-- The device as initiator, the target driving `c` and `b`. -/
def initiator (c : Lines) (b : Byte) : State := { State.reset with mode := .initiator, envCtrl := c, envData := b }

/-- The phases with BSY, and with BSY and REQ. -/
def held (p : PhaseCode) : Lines := lineBsy ||| p.setWidth 9
def requested (p : PhaseCode) : Lines := lineBsy ||| lineReq ||| p.setWidth 9

/-! ### Steps: the dispatcher (95 2.1) -/

/-- Q1. -/
theorem test_nop_pops : (after (wr 0x3#4 0x00#8) State.reset).map (fun t => (t.cmdCount, t.istatus)) = some (0, 0x00#8) := by
  decide

/-- Q3: validity before the reload. -/
theorem test_xfer_illegal :
    (after (wr 0x3#4 0x90#8) { State.reset with tcount := 5#16, tcounter := 9#16, tc := true }).map
      (fun t => (t.istatus, t.irq, t.cmdCount, t.command0, t.tcounter, t.tc)) =
    some (0x40#8, true, 1, 0x90#8, 9#16, true) := by decide

/-- E3. -/
theorem test_gross_error :
    (after (wr 0x3#4 0x12#8) { initiator (held 0#3) 0#8 with command0 := 0x90#8, command1 := 0x11#8, cmdCount := 2 }).map
      (fun t => (t.ge, t.command1, t.cmdCount, t.irq)) = some (true, 0x11#8, 2, false) := by decide

/-- Q10: the chained command starts in the event of the read, and is invalid. -/
theorem test_istat_chains :
    (after (rd 0x5#4) { State.reset with istatus := 0x08#8, irq := true, cmdCount := 2, command1 := 0x26#8 }).map
      (fun t => (t.readData, t.istatus, t.irq, t.cmdCount, t.command0)) =
    some (0x08#8, 0x40#8, true, 1, 0x26#8) := by decide

/-- RG7: no cause, no pop. -/
theorem test_istat_empty :
    (after (rd 0x5#4) { State.reset with ge := true, seq := 3#3, cmdCount := 1 }).map
      (fun t => (t.readData, t.ge, t.seq, t.cmdCount)) = some (0x00#8, false, 0#3, 1) := by decide

/-! ### Steps: miscellaneous (95 2.2) -/

/-- M1. -/
theorem test_dma_nop :
    (after (wr 0x3#4 0x80#8) { State.reset with tcount := 0x1234#16, tc := true }).map
      (fun t => (t.tcounter, t.tc, t.cmdCount, t.istatus)) = some (0x1234#16, false, 0, 0x00#8) := by decide

/-- M2. -/
theorem test_flush :
    (after (wr 0x3#4 0x01#8) { State.reset with fifo := [0x12#8, 0x34#8] }).map (fun t => (t.fifo, t.cmdCount)) =
    some ([], 0) := by decide

/-- M3. -/
theorem test_reset :
    (after (wr 0x3#4 0x02#8) { initiator (held 0#3) 0#8 with
        config := 0x47#8, ownId := 7#3, fifo := [1#8, 2#8, 3#8], istatus := 0x10#8, irq := true, cmdCount := 2
        ctrlDrive := lineAck }).map
      (fun t => (t.config, t.ownId, t.fifo, t.istatus, t.irq)) = some (0x00#8, 0#3, [], 0x00#8, false) ∧
    (after (wr 0x3#4 0x02#8) { initiator (held 0#3) 0#8 with cmdCount := 2, ctrlDrive := lineAck }).map
      (fun t => (t.mode, t.ctrlDrive, t.cmdCount, t.ge)) = some (.disconnected, 0#9, 0, false) := by decide

/-- M4. -/
theorem test_resetbus :
    (after (wr 0x3#4 0x03#8) { initiator (held 0#3) 0#8 with
        config := 0x47#8, fifo := [1#8, 2#8, 3#8], istatus := 0x10#8, irq := true, coarse := .initXfr
        ctrlDrive := lineAck }).map
      (fun t => ((t.config, t.fifo.length, t.istatus, t.irq), (t.mode, t.coarse, t.ctrlDrive))) =
    some ((0x47#8, 3, 0x10#8, true), (.disconnected, .idle, 0#9)) := by decide

/-- M5, M6. -/
theorem test_cmd04 :
    (after (wr 0x3#4 0x04#8) (device .ncr5390)).map (fun t => (t.istatus, t.fault)) = some (0x40#8, none) ∧
    (after (wr 0x3#4 0x04#8) (device .ncr53c90a)).map (fun t => (t.istatus, t.fault)) =
      some (0x00#8, some .unimplementedCommand) := by decide

/-! ### Steps: selection (95 2.3, P2, E5) -/

/-- P2 step 11. -/
theorem test_selatn_starts :
    (after (wr 0x3#4 0x42#8) { State.reset with ownId := 7#3 }).map
      (fun t => (t.dataDrive, t.ctrlDrive, t.sub, t.timer.isSome, t.dmaDir)) =
    some (0x80#8, lineBsy, some .arbComplete, true, .off) := by decide

/-- P6 step 1. -/
theorem test_dma_select_asserts_drq :
    (after (wr 0x3#4 0xc1#8) { State.reset with tcount := 6#16 }).map (fun t => (t.tcounter, t.dmaDir, t.drq)) =
    some (6#16, .outward, true) := by decide

/-- E5, second and third rows. -/
theorem test_arbitration :
    (after .timer { State.reset with
        ownId := 6#3, sub := some .arbComplete, timer := some 1, dataDrive := 0x40#8, envData := 0x01#8 }).map
      (fun t => (t.fault, t.sub, t.ctrlDrive)) = some (none, some .arbAssertSel, lineSel) ∧
    (after .timer { State.reset with
        ownId := 6#3, sub := some .arbComplete, timer := some 1, dataDrive := 0x40#8, envData := 0x80#8 }).map
      (fun t => (t.fault, t.ctrlDrive, t.dataDrive)) = some (some .arbitrationLost, 0#9, 0x00#8) := by decide

/-- P2 step 13: both IDs on the data lines. -/
theorem test_selatn_sets_dest :
    (after .timer { State.reset with
        command0 := 0x42#8, cmdCount := 1, coarse := .discSelArbitrationInit, sub := some .arbAssertSel, timer := some 1
        ownId := 7#3, destId := 0#3, dataDrive := 0x80#8, ctrlDrive := lineBsy ||| lineSel }).map
      (fun t => (t.dataDrive, t.sub)) = some (0x81#8, some .arbSetDest) := by decide

/-- P2 step 14: ATN driven, BSY released. -/
theorem test_selatn_asserts_atn :
    (after .timer { State.reset with
        command0 := 0x42#8, cmdCount := 1, sub := some .arbSetDest, timer := some 1
        ctrlDrive := lineBsy ||| lineSel }).map (fun t => (t.ctrlDrive, t.sub)) =
    some (lineSel ||| lineAtn, some .arbReleaseBusy) := by decide

/-- S7: SELATNSTOP after the one byte. -/
theorem test_selatnstop :
    (after (.bus (held 6#3) 0#8) { initiator (requested 6#3) 0#8 with
        command0 := 0x43#8, cmdCount := 1, coarse := .discSelAtnSendByte, sub := some .sendWaitReq0
        fifo := [1#8, 2#8], ctrlDrive := lineAtn ||| lineAck }).map
      (fun t => (t.istatus, t.seq, t.ctrlDrive, t.fifo.length)) = some (0x08#8, 1#3, lineAtn, 2) := by decide

/-- S3: the first REQ in Message-In ends SELECT with sequence step 2. -/
theorem test_select_wrong_phase :
    (after (.bus (requested 7#3) 0#8) { initiator (held 7#3) 0#8 with
        command0 := 0x41#8, cmdCount := 1, coarse := .discSelWaitReq, commandLength := 6
        fifo := [1#8, 2#8, 3#8, 4#8, 5#8, 6#8] }).map (fun t => (t.istatus, t.seq, t.fifo.length)) =
    some (0x08#8, 2#3, 6) := by decide

/-- S13, S14, S15. -/
theorem test_group4_others :
    (after (wr 0x3#4 0x40#8) State.reset).map (fun t => t.fault) = some (some .unimplementedCommand) ∧
    (after (wr 0x3#4 0x44#8) State.reset).map (fun t => (t.cmdCount, t.istatus)) = some (0, 0x00#8) ∧
    (after (wr 0x3#4 0x45#8) State.reset).map (fun t => (t.cmdCount, t.istatus)) = some (0, 0x00#8) ∧
    (after (wr 0x3#4 0x46#8) (device .ncr5390)).map (fun t => t.istatus) = some 0x40#8 := by decide

/-! ### Steps: the initiator commands (95 2.4 to 2.7) -/

/-- P3 step 3. -/
theorem test_dma_xfer_in :
    (after (wr 0x3#4 0x90#8) { initiator (requested 1#3) 0xa0#8 with tcount := 4#16 }).map
      (fun t => (t.tcounter, t.xfrPhase, t.dmaDir, t.coarse, t.sub)) =
    some (4#16, 1#3, .inward, .initXfrRecvByteAck, some .recvWaitSettle) := by decide

/-- X11. -/
theorem test_xfer_reserved_phase :
    (after (wr 0x3#4 0x10#8) (initiator (held 4#3) 0#8)).map (fun t => (t.istatus, t.coarse, t.fifo)) =
    some (0x08#8, .idle, []) := by decide

/-- X10, the last byte: ACK is held and the transfer waits for the drain. -/
theorem test_last_message_in :
    (after (.bus (held 7#3) 0#8) { initiator (requested 7#3) 0#8 with
        cmdCount := 1, dmaCommand := true, coarse := .initXfrRecvByteNack, sub := some .recvWaitReq0, xfrPhase := 7#3
        dmaDir := .inward, drq := true, tcounter := 1#16, fifo := [0x03#8], ctrlDrive := lineAck }).map
      (fun t => (t.tc, t.coarse, t.ctrlDrive, t.istatus)) =
    some (true, .initXfrFunctionComplete, lineAck, 0x00#8) := by decide

/-- P4 step 1 and step 6. -/
theorem test_iccs :
    (after (wr 0x3#4 0x11#8) (initiator (requested 3#3) 0x02#8)).map (fun t => (t.coarse, t.sub)) =
      some (.initCptRecvByteAck, some .recvWaitSettle) ∧
    (after (.bus (held 7#3) 0#8) { initiator (requested 7#3) 0#8 with
        cmdCount := 1, coarse := .initCptRecvByteNack, sub := some .recvWaitReq0, fifo := [2#8, 0#8]
        ctrlDrive := lineAck }).map (fun t => (t.istatus, t.ctrlDrive)) = some (0x08#8, lineAck) := by decide

/-- P4 steps 10 and 11. -/
theorem test_msgacc :
    (after (wr 0x3#4 0x12#8) { initiator (held 7#3) 0#8 with ctrlDrive := lineAck, seq := 4#3 }).map
      (fun t => (t.ctrlDrive, t.seq, t.coarse)) = some (0#9, 0#3, .initMsgWaitReq) ∧
    (after (.bus 0#9 0#8) { initiator (held 7#3) 0#8 with cmdCount := 1, coarse := .initMsgWaitReq }).map
      (fun t => (t.istatus, t.mode, t.cmdCount)) = some (0x20#8, .disconnected, 0) := by decide

/-- P-1, the first byte; P-2, the discarded one. -/
theorem test_pad :
    (after (wr 0x3#4 0x98#8) { initiator (requested 0#3) 0#8 with tcount := 2#16, fifo := [9#8] }).map
      (fun t => (t.coarse, t.dataDrive, t.ctrlDrive, t.drq, t.fifo)) =
      some (.initXfrSendPad, 0x00#8, lineAck, false, [9#8]) ∧
    (after (.bus (held 1#3) 0#8) { initiator (requested 1#3) 0x55#8 with
        cmdCount := 1, dmaCommand := true, coarse := .initXfrRecvPad, sub := some .recvWaitReq0, xfrPhase := 1#3
        tcounter := 1#16, ctrlDrive := lineAck }).map (fun t => (t.tc, t.istatus, t.ctrlDrive, t.fifo)) =
      some (true, 0x08#8, 0#9, []) := by decide

/-- P-3, P-5: a REQ in another phase than the captured one ends the pad with bus service. -/
theorem test_pad_other_phase :
    (after (.bus (requested 3#3) 0#8) { initiator (held 0#3) 0#8 with
        cmdCount := 1, dmaCommand := true, coarse := .initXfrSendPadWaitReq, tcounter := 3#16 }).map
      (fun t => (t.istatus, t.tcounter, t.coarse)) = some (0x10#8, 3#16, .idle) ∧
    (after (.bus (requested 3#3) 0#8) { initiator (held 1#3) 0#8 with
        cmdCount := 1, coarse := .initXfrRecvPadWaitReq, xfrPhase := 1#3 }).map
      (fun t => (t.istatus, t.coarse)) = some (0x10#8, .idle) := by decide

/-- I4: bus service at the REQ that comes after MSGACC. -/
theorem test_msgacc_later_request :
    (after (.bus (requested 2#3) 0#8) { initiator (held 2#3) 0#8 with cmdCount := 1, coarse := .initMsgWaitReq }).map
      (fun t => (t.istatus, t.coarse, t.mode)) = some (0x10#8, .idle, .initiator) := by decide

/-- A-1, A-2, A-3. -/
theorem test_atn :
    (after (wr 0x3#4 0x1a#8) (initiator (held 6#3) 0#8)).map (fun t => (t.ctrlDrive, t.cmdCount)) = some (lineAtn, 0) ∧
    (after (wr 0x3#4 0x1b#8) { initiator (held 6#3) 0#8 with ctrlDrive := lineAtn }).map (fun t => t.ctrlDrive) =
      some 0#9 ∧
    (after (wr 0x3#4 0x1a#8) State.reset).map (fun t => t.istatus) = some 0x40#8 := by decide

/-- G-1, G-2: the first and the last code of the group. -/
theorem test_target_commands_illegal :
    (after (wr 0x3#4 0x20#8) State.reset).map (fun t => t.istatus) = some 0x40#8 ∧
    (after (wr 0x3#4 0x2b#8) (initiator (held 0#3) 0#8)).map (fun t => t.istatus) = some 0x40#8 := by decide

/-! ### Steps: registers, the counter, the DMA port (95 2.9 to 2.11) -/

/-- RG1, RG2. -/
theorem test_counter_registers :
    (after (rd 0x0#4) { State.reset with tcounter := 0xabcd#16 }).map (fun t => t.readData) = some 0xcd#8 ∧
    (after (rd 0x1#4) { State.reset with tcounter := 0xabcd#16 }).map (fun t => t.readData) = some 0xab#8 ∧
    (after (wr 0x0#4 0x01#8) { State.reset with tcounter := 0xabcd#16, tcount := 0xabcd#16 }).map
      (fun t => (t.tcount, t.tcounter)) = some (0xab01#16, 0xabcd#16) := by decide

/-- RG5, RG6. -/
theorem test_status_byte :
    (after (rd 0x4#4) { device .ncr53c90a with irq := true, istatus := 8#8, ge := true, tc := true, envCtrl := held 3#3 }).map
      (fun t => t.readData) = some 0xd3#8 ∧
    (after (rd 0x4#4) { device .ncr5390 with irq := true, istatus := 8#8, ge := true, tc := true, envCtrl := held 3#3 }).map
      (fun t => t.readData) = some 0x53#8 := by decide

/-- RG4, RG8, RG9. -/
theorem test_plain_reads :
    (after (rd 0x3#4) { State.reset with command0 := 0x42#8 }).map (fun t => t.readData) = some 0x42#8 ∧
    (after (rd 0x6#4) { State.reset with seq := 4#3 }).map (fun t => t.readData) = some 0x04#8 ∧
    (after (rd 0x7#4) { State.reset with fifo := List.replicate 16 1#8 }).map (fun t => t.readData) = some 0x10#8 := by
  decide

/-- E1: the 17th byte is dropped. -/
theorem test_fifo_full :
    (after (wr 0x2#4 0x11#8) { State.reset with fifo := List.replicate 16 1#8 }).map (fun t => t.fifo) =
    some (List.replicate 16 1#8) := by decide

/-- RG3: an empty FIFO stays empty. -/
theorem test_fifo_empty_read :
    (after (rd 0x2#4) State.reset).map (fun t => (t.fifo, t.draws)) = some ([], 1) := by decide

/-- RG10, second write; RG11; RG15. -/
theorem test_config_writes :
    (after (wr 0x8#4 0x07#8) { State.reset with config := 0x0f#8, testMode := true }).map
      (fun t => (t.config, t.ownId, t.testMode)) = some (0x07#8, 7#3, true) ∧
    (after (wr 0x9#4 0xfa#8) State.reset).map (fun t => t.clockConv) = some 2#3 ∧
    (after (wr 0x6#4 0xff#8) State.reset).map (fun t => t.syncPeriod) = some 0x1f#5 := by decide

/-- RG12, RG13. -/
theorem test_variant_registers :
    (after (wr 0xb#4 0x55#8) (device .ncr5390)).map (fun t => t.config2) = some 0x00#8 ∧
    (after (wr 0xc#4 0x55#8) (device .ncr53c94)).map (fun t => t.config3) = some 0x55#8 ∧
    (after (rd 0xc#4) { device .ncr53c94 with config3 := 0x55#8 }).map (fun t => t.readData) = some 0x55#8 ∧
    (after (wr 0xf#4 0x55#8) (device .ncr53c94)).map (fun t => t.fifoAlign) = some 0x55#8 := by decide

/-- N1, N2, N4. -/
theorem test_decrement :
    (decrementTcounter { State.reset with dmaCommand := true, tcounter := 1#16 }).tc = true ∧
    (decrementTcounter { State.reset with dmaCommand := true, tcounter := 0#16 }).tcounter = 0xffff#16 ∧
    (decrementTcounter { State.reset with dmaCommand := true, tcounter := 0#16 }).tc = false ∧
    (decrementTcounter { State.reset with tcounter := 5#16 }).tcounter = 5#16 := by decide

/-- L-7, L-8. -/
theorem test_dma_without_request :
    (after (.access (.dmaWrite 0#8)) State.reset).map (fun t => t.fault) = some (some .dmaWithoutRequest) ∧
    (after (.access .dmaRead) { State.reset with dmaDir := .outward, drq := true }).map (fun t => t.fault) =
      some (some .dmaWithoutRequest) := by decide

/-- P3 step 5, P6 step 2. -/
theorem test_dma_port :
    (after (.access .dmaRead) { initiator (requested 1#3) 0#8 with
        dmaCommand := true, dmaDir := .inward, drq := true, fifo := [0xa0#8], coarse := .initXfrRecvByteAck
        sub := some .recvWaitReq0, tcounter := 4#16 }).map (fun t => (t.readData, t.fifo, t.drq, t.tcounter)) =
      some (0xa0#8, [], false, 4#16) ∧
    (after (.access (.dmaWrite 0x12#8)) { State.reset with
        dmaCommand := true, dmaDir := .outward, drq := true, sub := some .arbComplete, tcounter := 6#16 }).map
      (fun t => (t.fifo, t.tcounter, t.drq)) = some ([0x12#8], 5#16, true) := by decide

/-- Z1, Z2. -/
theorem test_bus_reset :
    (after (.bus lineRst 0#8) { initiator (held 0#3) 0#8 with config := 0x07#8, coarse := .initXfr, cmdCount := 1 }).map
      (fun t => (t.istatus, t.irq, t.mode, t.config)) = some (0x80#8, true, .disconnected, 0x07#8) ∧
    (after (.bus lineRst 0#8) { initiator (held 0#3) 0#8 with config := 0x47#8, coarse := .initXfr, cmdCount := 1 }).map
      (fun t => (t.istatus, t.irq, t.mode)) = some (0x00#8, false, .disconnected) := by decide

/-- An instruction placed from a table word is the next step's. -/
theorem test_fetch_word :
    (match step (State.reset.withFetchWord 8 0x01) with
      | .next t => some (t.command0, t.events)
      | .fault _ => none
      | .refused _ => none) = some (0x01#8, []) := by decide

/-! ### Witnesses: states that meet each obligation's hypotheses -/

theorem test_wit_EncodeInvertsDecode : decode (.regRead 0xb#4) = .ok .rdConfig2 := rfl

theorem test_wit_ValidCodesHaveACommand :
    commandValid .ncr5390 .initiator 0x1b#7 = true ∧ commandValid .ncr53c94 .target 0x2b#7 = true := by decide

theorem test_wit_StepRunsDecodedInstruction :
    ({ State.reset with events := [rd 0x5#4, .timer] } : State).events = .access (.regRead 0x5#4) :: [.timer] ∧
    decode (.regRead 0x5#4) = .ok .rdIstat := ⟨rfl, rfl⟩

theorem test_wit_FaultedDeviceIsStuck :
    ({ State.reset with fault := some .arbitrationLost } : State).fault = some .arbitrationLost := rfl

/-- For the obligations whose only hypothesis is a live device: EveryInstructionAnswers, CounterLoadWrites,
PlainRegisterWrites, ConfigWriteLatches, PlainRegisterReads, StatusReadComposes, ResetCommandHardResets,
ResetbusCommandSoftResets. -/
theorem test_wit_live : (initiator (requested 3#3) 0x02#8).live := rfl

theorem test_wit_VariantRegisters :
    (device .ncr5390).live ∧ (device .ncr53c90a).live ∧ (device .ncr53c94).live ∧
    (device .ncr53c90a).params.variant = .ncr53c90a ∧ (device .ncr53c94).params.variant = .ncr53c94 := by decide

theorem test_wit_UnmappedAccessesChangeNothing :
    0x9#4 ∈ [0x9#4, 0xa#4, 0xd#4, 0xe#4, 0xf#4] ∧ 0xf#4 ∈ [0x9#4, 0xa#4, 0xd#4, 0xe#4, 0xf#4] ∧
    ({ State.reset with events := [rd 0xf#4] } : State).events = .access (.regRead 0xf#4) :: [] ∧
    0xe#4 ∈ [0xd#4, 0xe#4] ∧
    ({ State.reset with events := [wr 0xe#4 0x01#8] } : State).events = .access (.regWrite 0xe#4 0x01#8) :: [] ∧
    (device .ncr5390).params.variant = .ncr5390 ∧ (device .ncr53c90a).params.variant ≠ .ncr53c94 := by decide

theorem test_wit_FifoRegisterAccess :
    ({ State.reset with fifo := List.replicate 15 1#8 } : State).fifo.length < 16 ∧
    16 ≤ ({ State.reset with fifo := List.replicate 16 1#8 } : State).fifo.length ∧
    ({ State.reset with fifo := 1#8 :: List.replicate 15 2#8 } : State).fifo = 1#8 :: List.replicate 15 2#8 ∧
    State.reset.fifo = [] := by decide

theorem test_wit_IstatusReadClearsAndChains :
    State.reset.istatus = 0x00#8 ∧
    ({ State.reset with istatus := 0x08#8, cmdCount := 1 } : State).istatus ≠ 0x00#8 ∧
    ({ State.reset with istatus := 0x08#8, cmdCount := 1 } : State).cmdCount ≠ 2 ∧
    ({ State.reset with istatus := 0x80#8, cmdCount := 2 } : State).istatus ≠ 0x00#8 ∧
    ({ State.reset with istatus := 0x80#8, cmdCount := 2 } : State).cmdCount = 2 := by decide

theorem test_wit_ThirdCommandIsGrossError :
    ({ State.reset with cmdCount := 2 } : State).live ∧ ({ State.reset with cmdCount := 2 } : State).cmdCount = 2 ∧
    0x81#8 &&& 0x7f#8 ≠ 0x02#8 ∧ 0x81#8 &&& 0x7f#8 ≠ 0x03#8 ∧
    0x04#8 &&& 0x7f#8 ≠ 0x02#8 ∧ 0x04#8 &&& 0x7f#8 ≠ 0x03#8 := by decide

theorem test_wit_SecondCommandIsQueued :
    ({ State.reset with cmdCount := 1 } : State).live ∧ ({ State.reset with cmdCount := 1 } : State).cmdCount = 1 ∧
    0x10#8 &&& 0x7f#8 ≠ 0x02#8 ∧ 0x10#8 &&& 0x7f#8 ≠ 0x03#8 := by decide

/-- The hypotheses of IllegalCommandSetsIll. -/
abbrev illegal (s : State) (v : Byte) : Prop :=
  s.live ∧ s.queueEmpty ∧
  v &&& 0x7f#8 ∉ [0x00#8, 0x01#8, 0x02#8, 0x03#8] ∧
  (s.params.variant ≠ .ncr5390 → v &&& 0x7f#8 ≠ 0x04#8) ∧
  (s.mode = .initiator → v &&& 0x7f#8 ∉ [0x10#8, 0x11#8, 0x12#8, 0x18#8, 0x1a#8, 0x1b#8]) ∧
  (s.mode = .target →
    v &&& 0x7f#8 ∉ [0x20#8, 0x21#8, 0x22#8, 0x23#8, 0x24#8, 0x25#8, 0x27#8, 0x28#8, 0x29#8, 0x2a#8, 0x2b#8]) ∧
  (s.mode = .disconnected → v &&& 0x7f#8 ∉ [0x40#8, 0x41#8, 0x42#8, 0x43#8, 0x44#8, 0x45#8]) ∧
  (s.mode = .disconnected → s.params.variant ≠ .ncr5390 → v &&& 0x7f#8 ≠ 0x46#8)

/-- XFER outside mode Initiator; CMD04 and SELATN3 on NCR5390; SETATN in mode Disconnected; DISSEL in mode Initiator; the
gap 0x26 and SELECT in mode Target. -/
theorem test_wit_IllegalCommandSetsIll :
    illegal State.reset 0x90#8 ∧ illegal (device .ncr5390) 0x04#8 ∧ illegal (device .ncr5390) 0xc6#8 ∧
    illegal State.reset 0x1a#8 ∧ illegal (initiator 0#9 0#8) 0x45#8 ∧
    illegal { State.reset with mode := .target } 0x26#8 ∧ illegal { State.reset with mode := .target } 0x41#8  := by
  refine ⟨?_, ?_, ?_, ?_, ?_, ?_, ?_⟩ <;> decide

theorem test_wit_TargetCommandsIllegalOutsideTarget :
    State.reset.live ∧ State.reset.queueEmpty ∧ State.reset.mode ≠ .target ∧ (initiator 0#9 0#8).mode ≠ .target ∧
    Cmd.recvcmdseq ∈ [Cmd.sendmsg, .sendstatus, .senddata, .discseq, .termseq, .tccs, .disconnect, .recvmsg, .recvcmd,
      .recvdata, .recvcmdseq] := by decide

/-- A state with two commands queued and an event to come. -/
def queued (e : Event) : State :=
  { initiator (held 0#3) 0#8 with cmdCount := 2, command0 := 0x90#8, command1 := 0x10#8, events := [e] }

/-- What a step leaves of the queue. -/
def queueAfter (s : State) : Option (Fin 3 × Byte × Byte) :=
  match step s with
  | .next t => some (t.cmdCount, t.command0, t.command1)
  | .fault _ => none
  | .refused _ => none

/-- A step of each kind: one that keeps the queue, a reset byte, a bus reset, a disconnect. -/
theorem test_wit_QueuedCommandWaits :
    (∀ e, (queued e).cmdCount = 2) ∧
    (∀ rest, (queued .timer).events ≠ .access (.regRead 0x5#4) :: rest) ∧
    queueAfter (queued .timer) = some (2, 0x90#8, 0x10#8) ∧
    queueAfter (queued (wr 0x3#4 0x83#8)) = some (0, 0x83#8, 0x10#8) ∧
    queueAfter (queued (.bus (held 0#3 ||| lineRst) 0#8)) = some (0, 0x90#8, 0x10#8) ∧
    queueAfter (queued (.bus 0#9 0#8)) = some (0, 0x90#8, 0x10#8) :=
  ⟨fun _ => rfl, fun _ h => (by cases h), by decide⟩

theorem test_wit_ImmediateCommands :
    State.reset.live ∧ State.reset.queueEmpty ∧ State.reset.mode = .disconnected ∧
    (initiator 0#9 0#8).live ∧ (initiator 0#9 0#8).queueEmpty ∧ (initiator 0#9 0#8).mode = .initiator := by decide

/-- A device in mode Target: no rule enters it (R438), so no run does; the mode is a value of R44 all the same. -/
def target : State := { State.reset with mode := .target }

theorem test_wit_UnimplementedCommandsFault :
    State.reset.live ∧ State.reset.queueEmpty ∧ State.reset.params.variant ≠ .ncr5390 ∧
    State.reset.mode = .disconnected ∧ target.live ∧ target.queueEmpty ∧ target.mode = .target := by decide

theorem test_wit_SelectionsStartArbitration :
    State.reset.live ∧ State.reset.queueEmpty ∧ State.reset.mode = .disconnected ∧
    Cmd.selatnstop ∈ [Cmd.select, .selatn, .selatnstop] := by decide

/-- A device in an arbitration sub-state with its timer about to expire. -/
def arbitrating (u : Sub) (own : BusId) (b : Byte) (c : Lines) : State :=
  { State.reset with
    coarse := .discSelArbitrationInit, sub := some u, timer := some 1, ownId := own, cmdCount := 1
    dataDrive := idBit own, envData := b, envCtrl := c, events := [.timer] }

/-- An initiator in a coarse state. -/
def inState (c : Coarse) (p : Lines) : State := { initiator p 0#8 with coarse := c, cmdCount := 1, commandLength := 1 }

theorem test_wit_ArbitrationDecides :
    (arbitrating .arbComplete 0#3 0x00#8 0#9).live ∧ (arbitrating .arbComplete 0#3 0x00#8 0#9).events = .timer :: [] ∧
    (arbitrating .arbComplete 0#3 0x00#8 0#9).timer.isSome = true ∧
    (arbitrating .arbComplete 0#3 0x00#8 0#9).sub = some .arbComplete ∧
    (arbitrating .arbComplete 0#3 0x00#8 0#9).mode ≠ .initiator ∧
    highestId (busData (arbitrating .arbComplete 0#3 0x00#8 0#9)) = some 0#3 ∧
    highestId (busData (arbitrating .arbComplete 6#3 0x80#8 0#9)) ≠ some 6#3 ∧
    (arbitrating .arbAssertSel 7#3 0x00#8 0#9).sub = some .arbAssertSel ∧
    (arbitrating .arbSetDest 7#3 0x00#8 0#9).sub = some .arbSetDest := by decide

theorem test_wit_SelectionTimeoutSequence :
    (arbitrating .arbReleaseBusy 7#3 0#8 0#9).live ∧ (arbitrating .arbReleaseBusy 7#3 0#8 0#9).timer.isSome = true ∧
    (arbitrating .arbReleaseBusy 7#3 0#8 0#9).mode ≠ .initiator ∧
    (arbitrating .arbReleaseBusy 7#3 0#8 0#9).sub = some .arbReleaseBusy ∧
    asserted (busCtrl (arbitrating .arbReleaseBusy 7#3 0#8 0#9)) lineBsy = false ∧
    (arbitrating .arbTimeoutBusy 7#3 0#8 0#9).sub = some .arbTimeoutBusy ∧
    (arbitrating .arbTimeoutAbort 7#3 0#8 0#9).sub = some .arbTimeoutAbort ∧
    asserted (busCtrl (arbitrating .arbTimeoutAbort 7#3 0#8 0#9)) lineBsy = false ∧
    asserted (busCtrl (arbitrating .arbTimeoutAbort 7#3 0#8 lineBsy)) lineBsy = true ∧
    asserted (busCtrl (arbitrating .arbTimeoutBusy 7#3 0#8 lineBsy)) lineBsy = true ∧
    asserted (busCtrl (arbitrating .arbTimeoutBusy 7#3 0#8 0#9)) lineBsy = false ∧
    (arbitrating .arbDeskewWait 7#3 0#8 0#9).sub = some .arbDeskewWait ∧
    Sub.arbDeskewWait ∈
      [Sub.arbComplete, .arbAssertSel, .arbSetDest, .arbReleaseBusy, .arbTimeoutAbort, .arbDeskewWait] := by decide

theorem test_wit_SelectionAnswered :
    (arbitrating .arbDeskewWait 7#3 0#8 lineBsy).live ∧ (arbitrating .arbDeskewWait 7#3 0#8 lineBsy).mode ≠ .initiator ∧
    (arbitrating .arbDeskewWait 7#3 0#8 lineBsy).sub = some .arbDeskewWait ∧
    (arbitrating .arbDeskewWait 7#3 0#8 lineBsy).coarse = .discSelArbitrationInit ∧
    asserted (arbitrating .arbDeskewWait 7#3 0#8 lineBsy).envCtrl lineBsy = true ∧
    (arbitrating .arbDeskewWait 7#3 0#8 lineBsy).fifo = [] ∧
    ({ arbitrating .arbDeskewWait 7#3 0#8 lineBsy with fifo := [1#8] } : State).fifo ≠ [] ∧
    asserted (busCtrl { arbitrating .arbDeskewWait 7#3 0#8 lineBsy with fifo := [1#8] }) lineReq = false ∧
    asserted (busCtrl { arbitrating .arbDeskewWait 7#3 0#8 (requested 6#3) with fifo := [1#8] }) lineReq = true ∧
    asserted (arbitrating .arbDeskewWait 7#3 0#8 (requested 6#3)).envCtrl lineBsy = true ∧
    (inState .discSelArbitrationInit (held 0#3)).coarse = .discSelArbitrationInit ∧
    (inState .discSelArbitrationInit (held 0#3)).sub = none ∧ (inState .discSelArbitrationInit (held 0#3)).fifo = [] ∧
    asserted (busCtrl (inState .discSelArbitrationInit (held 0#3))) lineBsy = true ∧
    asserted (busCtrl { inState .discSelArbitrationInit (held 0#3) with fifo := [1#8] }) lineReq = false ∧
    asserted (busCtrl { inState .discSelArbitrationInit (requested 6#3) with fifo := [1#8] }) lineReq = true ∧
    ({ inState .discSelArbitrationInit (requested 6#3) with fifo := [1#8] } : State).fifo ≠ [] := by decide

theorem test_wit_MessageByteStep :
    (inState .discSelAtnWaitReq (held 6#3)).coarse = .discSelAtnWaitReq ∧
    (inState .discSelAtnWaitReq (held 6#3)).sub = none ∧
    asserted (busCtrl (inState .discSelAtnWaitReq (held 6#3))) lineBsy = true ∧
    asserted (busCtrl (inState .discSelAtnWaitReq (held 6#3))) lineReq = false ∧
    asserted (busCtrl (inState .discSelAtnWaitReq (requested 2#3))) lineReq = true ∧
    phaseOf (busCtrl (inState .discSelAtnWaitReq (requested 2#3))) ≠ 6#3 ∧
    phaseOf (busCtrl (inState .discSelAtnWaitReq (requested 6#3))) = 6#3 ∧
    (inState .discSelAtnWaitReq (requested 6#3)).fifo = [] ∧
    ({ inState .discSelAtnWaitReq (requested 6#3) with fifo := [0x80#8] } : State).fifo = 0x80#8 :: [] := by decide

theorem test_wit_CommandByteStep :
    (inState .discSelWaitReq (held 2#3)).coarse = .discSelWaitReq ∧ (inState .discSelWaitReq (held 2#3)).sub = none ∧
    asserted (busCtrl (inState .discSelWaitReq (held 2#3))) lineBsy = true ∧
    asserted (busCtrl (inState .discSelWaitReq (held 2#3))) lineReq = false ∧
    asserted (busCtrl (inState .discSelWaitReq (requested 3#3))) lineReq = true ∧
    phaseOf (busCtrl (inState .discSelWaitReq (requested 3#3))) ≠ 2#3 ∧
    phaseOf (busCtrl (inState .discSelWaitReq (requested 2#3))) = 2#3 ∧
    (inState .discSelWaitReq (requested 2#3)).commandLength ≠ 0 ∧
    (inState .discSelWaitReq (requested 2#3)).fifo = [] ∧
    ({ inState .discSelWaitReq (requested 2#3) with fifo := [0x12#8] } : State).fifo = 0x12#8 :: [] := by decide

theorem test_wit_XferOutbound :
    (initiator (held 6#3) 0#8).live ∧ (initiator (held 6#3) 0#8).queueEmpty ∧ (initiator (held 6#3) 0#8).mode = .initiator ∧
    asserted (busCtrl (initiator (held 6#3) 0#8)) lineBsy = true ∧ 6#3 = phaseOf (busCtrl (initiator (held 6#3) 0#8)) ∧
    6#3 ∈ [0#3, 2#3, 6#3] ∧ 0#3 = phaseOf (busCtrl (initiator (requested 0#3) 0#8)) ∧
    (initiator (held 6#3) 0#8).fifo = [] ∧
    ({ initiator (held 6#3) 0#8 with fifo := [1#8] } : State).fifo = 1#8 :: [] ∧
    (inState .initXfr (held 0#3)).coarse = .initXfr ∧ (inState .initXfr (held 0#3)).sub = none ∧
    asserted (busCtrl (inState .initXfr (held 0#3))) lineBsy = true ∧
    (inState .initXfr (held 0#3)).xfrPhase ∈ [0#3, 2#3, 6#3] ∧ (inState .initXfr (held 0#3)).fifo = [] ∧
    ({ inState .initXfr (held 6#3) with xfrPhase := 6#3, fifo := [1#8] } : State).xfrPhase ∈ [0#3, 2#3, 6#3] ∧
    ({ inState .initXfr (held 6#3) with xfrPhase := 6#3, fifo := [1#8] } : State).fifo = 1#8 :: [] := by decide

theorem test_wit_XferInbound :
    (initiator (requested 7#3) 0#8).live ∧ (initiator (requested 7#3) 0#8).queueEmpty ∧
    (initiator (requested 7#3) 0#8).mode = .initiator ∧
    asserted (busCtrl (initiator (requested 7#3) 0#8)) lineBsy = true ∧
    7#3 = phaseOf (busCtrl (initiator (requested 7#3) 0#8)) ∧ 7#3 ∈ [1#3, 3#3, 7#3] ∧
    ({ initiator (requested 7#3) 0#8 with fifo := List.replicate 16 1#8 } : State).fifo.length = 16 ∧
    ({ initiator (requested 7#3) 0#8 with fifo := List.replicate 15 1#8 } : State).fifo.length ≠ 16 ∧
    asserted (busCtrl (initiator (requested 7#3) 0#8)) lineReq = true ∧
    asserted (busCtrl (initiator (held 1#3) 0#8)) lineReq = false ∧
    (let moving (c : Lines) (n : Nat) := { inState .initXfr c with xfrPhase := 7#3, fifo := List.replicate n 1#8 }
     (moving (requested 7#3) 15).coarse = .initXfr ∧ (moving (requested 7#3) 15).sub = none ∧
     asserted (busCtrl (moving (requested 7#3) 15)) lineBsy = true ∧
     (moving (requested 7#3) 15).xfrPhase ∈ [1#3, 3#3, 7#3] ∧ (moving (requested 7#3) 16).fifo.length = 16 ∧
     (moving (requested 7#3) 15).fifo.length ≠ 16 ∧ asserted (busCtrl (moving (requested 7#3) 15)) lineReq = true ∧
     asserted (busCtrl (moving (held 7#3) 15)) lineReq = false) := by decide

theorem test_wit_XferReservedPhase :
    (initiator (held 5#3) 0#8).live ∧ (initiator (held 5#3) 0#8).queueEmpty ∧ (initiator (held 5#3) 0#8).mode = .initiator ∧
    asserted (busCtrl (initiator (held 5#3) 0#8)) lineBsy = true ∧ 5#3 = phaseOf (busCtrl (initiator (held 5#3) 0#8)) ∧
    5#3 ∈ [4#3, 5#3] ∧ 4#3 = phaseOf (busCtrl (initiator (held 4#3) 0#8)) ∧
    ({ inState .initXfr (held 5#3) with xfrPhase := 5#3 } : State).coarse = .initXfr ∧
    ({ inState .initXfr (held 5#3) with xfrPhase := 5#3 } : State).sub = none ∧
    asserted (busCtrl { inState .initXfr (held 5#3) with xfrPhase := 5#3 }) lineBsy = true ∧
    ({ inState .initXfr (held 5#3) with xfrPhase := 5#3 } : State).xfrPhase ∈ [4#3, 5#3] := by decide

/-- A transfer waiting for the next REQ: not there; there, with the phase changed, DMA-in at terminal count, DMA-out
drained, programmed I/O in and out; there, with a byte left to move. -/
theorem test_wit_TransferEndsAtRequest :
    let s := inState .initXfrWaitReq (requested 3#3)
    let dmaIn := { s with xfrPhase := 3#3, dmaCommand := true, tc := true, dmaDir := .inward, fifo := [1#8] }
    let dmaOut := { s with dmaCommand := true, tc := true, dmaDir := .outward }
    let pioIn := { s with xfrPhase := 3#3 }
    s.coarse = .initXfrWaitReq ∧ s.sub = none ∧ asserted (busCtrl s) lineBsy = true ∧
    asserted (busCtrl s) lineReq = true ∧ phaseOf (busCtrl s) ≠ s.xfrPhase ∧
    phaseOf (busCtrl dmaIn) = dmaIn.xfrPhase ∧ dmaIn.dmaCommand = true ∧ dmaIn.tc = true ∧ dmaIn.dmaDir = .inward ∧
    dmaOut.dmaCommand = true ∧ dmaOut.tc = true ∧ dmaOut.fifo = [] ∧
    pioIn.dmaCommand = false ∧ pioIn.xfrPhase.getLsbD 0 = true ∧ s.dmaCommand = false ∧ s.fifo = [] ∧
    asserted (busCtrl (inState .initXfrWaitReq (held 3#3))) lineReq = false ∧
    (let more := { inState .initXfrWaitReq (requested 0#3) with fifo := [1#8] }
     asserted (busCtrl more) lineBsy = true ∧ asserted (busCtrl more) lineReq = true ∧
     ¬(phaseOf (busCtrl more) ≠ more.xfrPhase ∨
       (more.dmaCommand = true ∧ more.tc = true ∧ (more.dmaDir = .inward ∨ more.fifo = [])) ∨
       (more.dmaCommand = false ∧ (more.xfrPhase.getLsbD 0 = true ∨ more.fifo = [])))) ∧
    (inState .initXfrBusComplete (held 3#3)).coarse = .initXfrBusComplete ∧
    (inState .initXfrBusComplete (held 3#3)).sub = none ∧
    asserted (busCtrl (inState .initXfrBusComplete (held 3#3))) lineBsy = true ∧
    (inState .initXfrFunctionComplete (held 7#3)).coarse = .initXfrFunctionComplete ∧
    (inState .initXfrFunctionComplete (held 7#3)).sub = none ∧
    asserted (busCtrl (inState .initXfrFunctionComplete (held 7#3))) lineBsy = true := by decide

theorem test_wit_IccsReceivesStatus :
    (initiator (requested 3#3) 0#8).live ∧ (initiator (requested 3#3) 0#8).queueEmpty ∧
    (initiator (requested 3#3) 0#8).mode = .initiator ∧
    asserted (busCtrl (initiator (requested 3#3) 0#8)) lineBsy = true ∧
    asserted (busCtrl (initiator (requested 3#3) 0#8)) lineReq = true ∧
    asserted (busCtrl (initiator (held 3#3) 0#8)) lineReq = false ∧
    (let got (c : Coarse) := { inState c (held 7#3) with sub := some .recvWaitReq0, ctrlDrive := lineAck }
     (got .initCptRecvByteAck).coarse = .initCptRecvByteAck ∧ (got .initCptRecvByteAck).sub = some .recvWaitReq0 ∧
     asserted (busCtrl (got .initCptRecvByteAck)) lineBsy = true ∧
     asserted (busCtrl (got .initCptRecvByteAck)) lineReq = false ∧
     (got .initCptRecvByteNack).coarse = .initCptRecvByteNack ∧
     asserted (busCtrl (got .initCptRecvByteNack)) lineReq = false) ∧
    (inState .initCptRecvWaitReq (held 7#3)).coarse = .initCptRecvWaitReq ∧
    (inState .initCptRecvWaitReq (held 7#3)).sub = none ∧
    asserted (busCtrl (inState .initCptRecvWaitReq (held 7#3))) lineReq = false ∧
    asserted (busCtrl (inState .initCptRecvWaitReq (requested 7#3))) lineReq = true ∧
    phaseOf (busCtrl (inState .initCptRecvWaitReq (requested 7#3))) = 7#3 ∧
    phaseOf (busCtrl (inState .initCptRecvWaitReq (requested 1#3))) ≠ 7#3 := by decide

theorem test_wit_MsgaccReleasesAck :
    (initiator (held 7#3) 0#8).live ∧ (initiator (held 7#3) 0#8).queueEmpty ∧ (initiator (held 7#3) 0#8).mode = .initiator ∧
    asserted (busCtrl (initiator (held 7#3) 0#8)) lineBsy = true ∧
    asserted (busCtrl (initiator (held 7#3) 0#8)) lineReq = false ∧
    asserted (busCtrl (initiator (requested 7#3) 0#8)) lineBsy = true ∧
    asserted (busCtrl (initiator (requested 7#3) 0#8)) lineReq = true ∧
    asserted (busCtrl (initiator 0#9 0#8)) lineBsy = false ∧
    (inState .initMsgWaitReq (requested 3#3)).coarse = .initMsgWaitReq ∧
    (inState .initMsgWaitReq (requested 3#3)).sub = none ∧
    asserted (busCtrl (inState .initMsgWaitReq (requested 3#3))) lineBsy = true := by decide

theorem test_wit_PadStarts :
    (initiator (requested 7#3) 0#8).live ∧ (initiator (requested 7#3) 0#8).queueEmpty ∧
    (initiator (requested 7#3) 0#8).mode = .initiator ∧
    asserted (busCtrl (initiator (requested 7#3) 0#8)) lineBsy = true ∧
    7#3 = phaseOf (busCtrl (initiator (requested 7#3) 0#8)) ∧
    asserted (busCtrl (initiator (held 0#3) 0#8)) lineReq = false ∧
    asserted (busCtrl (initiator (requested 0#3) 0#8)) lineReq = true ∧ (0#3 : PhaseCode).getLsbD 0 = false ∧
    (7#3 : PhaseCode).getLsbD 0 = true ∧
    (inState .initXfrSendPadWaitReq (held 0#3)).coarse = .initXfrSendPadWaitReq ∧
    (inState .initXfrSendPadWaitReq (held 0#3)).sub = none ∧
    asserted (busCtrl (inState .initXfrSendPadWaitReq (held 0#3))) lineBsy = true ∧
    asserted (busCtrl (inState .initXfrSendPadWaitReq (held 0#3))) lineReq = false ∧
    asserted (busCtrl (inState .initXfrSendPadWaitReq (requested 3#3))) lineReq = true ∧
    phaseOf (busCtrl (inState .initXfrSendPadWaitReq (requested 3#3))) ≠
      (inState .initXfrSendPadWaitReq (requested 3#3)).xfrPhase ∧
    phaseOf (busCtrl (inState .initXfrSendPadWaitReq (requested 0#3))) =
      (inState .initXfrSendPadWaitReq (requested 0#3)).xfrPhase ∧
    (inState .initXfrRecvPadWaitReq (held 1#3)).coarse = .initXfrRecvPadWaitReq ∧
    asserted (busCtrl (inState .initXfrRecvPadWaitReq (held 1#3))) lineReq = false ∧
    asserted (busCtrl (inState .initXfrRecvPadWaitReq (requested 1#3))) lineReq = true ∧
    phaseOf (busCtrl (inState .initXfrRecvPadWaitReq (requested 1#3))) ≠
      (inState .initXfrRecvPadWaitReq (requested 1#3)).xfrPhase ∧
    phaseOf (busCtrl { inState .initXfrRecvPadWaitReq (requested 1#3) with xfrPhase := 1#3 }) = 1#3 := by decide

theorem test_wit_SendHandshake :
    let sending (u : Sub) (c : Coarse) (p : Lines) := { inState c p with sub := some u }
    let s := sending .sendWaitSettle .discSelSendByte (requested 2#3)
    let w := sending .sendWaitReq0 .discSelSendByte (requested 2#3)
    let t (c : Coarse) := sending .sendWaitReq0 c (held 2#3)
    asserted (busCtrl s) lineBsy = true ∧ s.sub = some .sendWaitSettle ∧
    w.sub = some .sendWaitReq0 ∧ asserted (busCtrl w) lineBsy = true ∧ asserted (busCtrl w) lineReq = true ∧
    (t .discSelSendByte).coarse = .discSelSendByte ∧ (t .discSelSendByte).sub = some .sendWaitReq0 ∧
    asserted (busCtrl (t .discSelSendByte)) lineBsy = true ∧ asserted (busCtrl (t .discSelSendByte)) lineReq = false ∧
    asserted (busCtrl (t .discSelAtnSendByte)) lineReq = false ∧
    asserted (busCtrl (t .initXfrSendByte)) lineReq = false ∧ asserted (busCtrl (t .initXfrSendPad)) lineReq = false := by
  decide

theorem test_wit_ReceiveHandshake :
    let receiving (u : Sub) (c : Coarse) (p : Lines) := { inState c p with sub := some u }
    let r := receiving .recvWaitReq1 .initXfrRecvByteAck (held 1#3)
    let s (c : Coarse) := receiving .recvWaitSettle c (requested 1#3)
    let w := receiving .recvWaitReq0 .initXfrRecvByteAck (requested 1#3)
    let t (c : Coarse) := receiving .recvWaitReq0 c (held 7#3)
    r.sub = some .recvWaitReq1 ∧ asserted (busCtrl r) lineBsy = true ∧
    (s .initXfrRecvByteNack).sub = some .recvWaitSettle ∧ (s .initXfrRecvByteNack).coarse ≠ .initXfrRecvPad ∧
    asserted (busCtrl (s .initXfrRecvByteNack)) lineBsy = true ∧ (s .initXfrRecvPad).coarse = .initXfrRecvPad ∧
    w.sub = some .recvWaitReq0 ∧ asserted (busCtrl w) lineBsy = true ∧ asserted (busCtrl w) lineReq = true ∧
    (t .initXfrRecvByteAck).coarse = .initXfrRecvByteAck ∧ (t .initXfrRecvByteAck).sub = some .recvWaitReq0 ∧
    asserted (busCtrl (t .initXfrRecvByteAck)) lineBsy = true ∧
    asserted (busCtrl (t .initXfrRecvByteAck)) lineReq = false ∧
    asserted (busCtrl (t .initXfrRecvByteNack)) lineReq = false ∧
    asserted (busCtrl (t .initXfrRecvPad)) lineReq = false := by
  decide

theorem test_wit_CounterDecrement :
    State.reset.dmaCommand = false ∧ ({ State.reset with dmaCommand := true, tcounter := 1#16 } : State).dmaCommand = true := by
  decide

theorem test_wit_DmaReadPort :
    let reading (c : Coarse) (p : Lines) (f : List Byte) :=
      { inState c p with dmaCommand := true, dmaDir := .inward, drq := true, fifo := f }
    let s := { reading .initXfrRecvByteAck (requested 1#3) [1#8, 2#8] with sub := some .recvWaitReq0 }
    let full := { reading .initXfr (requested 7#3) (1#8 :: List.replicate 15 2#8) with xfrPhase := 7#3 }
    let t := reading .initXfrBusComplete (requested 3#3) [1#8]
    let u := reading .initXfrFunctionComplete (held 7#3) [1#8]
    State.reset.live ∧ State.reset.drq = false ∧ s.live ∧ s.drq = true ∧ s.dmaDir = .inward ∧
    s.fifo = 1#8 :: [2#8] ∧ asserted (busCtrl s) lineBsy = true ∧ s.sub = some .recvWaitReq0 ∧
    asserted (busCtrl s) lineReq = true ∧
    full.live ∧ full.drq = true ∧ full.dmaDir = .inward ∧ full.fifo = 1#8 :: List.replicate 15 2#8 ∧
    (List.replicate 15 2#8 : List Byte).length = 15 ∧ asserted (busCtrl full) lineBsy = true ∧ full.sub = none ∧
    full.coarse = .initXfr ∧ full.xfrPhase ∈ [1#3, 3#3, 7#3] ∧
    t.live ∧ t.drq = true ∧ t.dmaDir = .inward ∧ t.fifo = [1#8] ∧
    asserted (busCtrl t) lineBsy = true ∧ t.sub = none ∧ t.coarse = .initXfrBusComplete ∧
    u.fifo = [1#8] ∧ asserted (busCtrl u) lineBsy = true ∧ u.coarse = .initXfrFunctionComplete := by decide

theorem test_wit_DmaWritePort :
    let s := { arbitrating .arbComplete 7#3 0#8 0#9 with
      dmaCommand := true, dmaDir := .outward, drq := true, fifo := List.replicate 15 1#8 }
    let empty (c : Coarse) (p : Lines) :=
      { inState c p with dmaCommand := true, dmaDir := .outward, drq := true, tcounter := 1#16, xfrPhase := 6#3 }
    s.live ∧ s.drq = true ∧ s.dmaDir = .outward ∧ s.fifo.length < 16 ∧ s.dmaCommand = true ∧ s.mode ≠ .initiator ∧
    s.sub = some .arbComplete ∧ State.reset.dmaDir ≠ .outward ∧
    (empty .initXfr (requested 6#3)).live ∧ (empty .initXfr (requested 6#3)).fifo = [] ∧
    (empty .initXfr (requested 6#3)).sub = none ∧ (empty .initXfr (requested 6#3)).coarse = .initXfr ∧
    (empty .initXfr (requested 6#3)).xfrPhase ∈ [0#3, 2#3, 6#3] ∧
    asserted (busCtrl (empty .initXfr (requested 6#3))) lineBsy = true ∧
    asserted (busCtrl (empty .discSelAtnWaitReq (requested 6#3))) lineReq = true ∧
    phaseOf (busCtrl (empty .discSelAtnWaitReq (requested 6#3))) = 6#3 ∧
    asserted (busCtrl (empty .discSelWaitReq (requested 2#3))) lineReq = true ∧
    phaseOf (busCtrl (empty .discSelWaitReq (requested 2#3))) = 2#3 ∧
    (empty .discSelWaitReq (requested 2#3)).commandLength ≠ 0 ∧
    asserted (busCtrl (empty .discSelArbitrationInit (held 0#3))) lineReq = false ∧
    asserted (busCtrl (empty .discSelArbitrationInit (held 0#3))) lineBsy = true ∧
    asserted (busCtrl (empty .discSelArbitrationInit (requested 6#3))) lineReq = true := by decide

theorem test_wit_FifoOrderLaw : ({ State.reset with fifo := List.replicate 16 1#8 } : State).fifo.length ≤ 16 := by decide

theorem test_wit_DisconnectEndsConnection :
    (initiator 0#9 0#8).mode = .initiator ∧ asserted (busCtrl (initiator 0#9 0#8)) lineBsy = false := by decide

theorem test_wit_BusChangeNotifies :
    let s := { initiator (held 0#3) 0#8 with ctrlDrive := lineAck }
    s.live ∧ ({ s with events := [.bus 0#9 0#8] } : State).events = .bus 0#9 0#8 :: [] ∧
    busCtrl { s with envCtrl := held 0#3 ||| lineAck } = busCtrl s ∧
    busCtrl { s with envCtrl := lineRst } ≠ busCtrl s ∧
    asserted (busCtrl { s with envCtrl := lineRst }) lineRst = true ∧
    busCtrl { s with envCtrl := requested 0#3 } ≠ busCtrl s ∧
    asserted (busCtrl { s with envCtrl := requested 0#3 }) lineRst = false := by decide

theorem test_wit_TimerExpiry :
    ({ State.reset with events := [.timer], timer := some 0 } : State).live ∧
    ({ State.reset with events := [.timer], timer := some 0 } : State).events = .timer :: [] ∧
    ({ State.reset with events := [.timer], timer := some 0 } : State).timer.isSome = true ∧
    State.reset.timer = none ∧
    (initiator (held 0#3) 0#8).coarse = .idle ∧ (initiator (held 0#3) 0#8).sub = none ∧
    asserted (busCtrl (initiator (held 0#3) 0#8)) lineBsy = true ∧ State.reset.coarse = .idle ∧
    State.reset.sub = none ∧ State.reset.mode ≠ .initiator := by decide

/-- A sound state that a run reaches: waiting for a request in a transfer, a bus change to come that alters data only. -/
def transferring : State := { inState .initXfrWaitReq (held 1#3) with events := [.bus (held 1#3) 0x5a#8] }

theorem transferring_sound : Sound transferring :=
  { fifoBound := by decide
    irqFollows := rfl
    drqFollows := rfl
    drivesOwnLines := by decide
    notTarget := by decide
    noTargetCause := by decide
    noParityError := rfl
    seqBound := by decide
    lengthBound := by decide
    position := fun _ h => nomatch h
    arbitrationMode := fun _ h => nomatch h
    disconnectedQuiet := fun h => nomatch h
    timerArmed := fun _ _ h => nomatch h
    noQueuedReset := by decide }

/-- The hypotheses of StepKeepsSound, BadStateNeverRaised, CausesPersist and ConfigurationSurvives together. -/
theorem test_wit_whole_machine :
    Sound transferring ∧ step transferring = .next { transferring with envData := 0x5a#8, events := [] } ∧
    (∀ rest, transferring.events ≠ .access (.regRead 0x5#4) :: rest) ∧
    (∀ v rest, v &&& 0x7f#8 = 0x02#8 → transferring.events ≠ .access (.cmd v) :: rest ∧
      transferring.events ≠ .access (.regWrite 0x3#4 v) :: rest) ∧
    (∀ off v rest, off ≠ 0x2#4 → off ≠ 0x3#4 → transferring.events ≠ .access (.regWrite off v) :: rest) :=
  ⟨transferring_sound, rfl, fun _ h => (by cases h), fun _ _ _ => ⟨fun h => (by cases h), fun h => (by cases h)⟩,
    fun _ _ _ _ _ h => (by cases h)⟩

/-- The first half of PopWhileRunningBreaksR309: a linked state with a command running, and one with none. -/
theorem test_wit_PopWhileRunningBreaksR309 :
    (transferring.cmdCount = 0 → transferring.coarse = .idle ∧ transferring.sub = none) ∧
    (State.reset.cmdCount = 0 ∧ State.reset.coarse = .idle ∧ State.reset.sub = none) ∧
    step State.reset = .next State.reset ∧
    (∀ rest, State.reset.events ≠ .access (.regRead 0x5#4) :: rest) :=
  ⟨fun h => (by cases h), ⟨rfl, rfl, rfl⟩, rfl, fun _ h => (by cases h)⟩

theorem test_wit_InitiatorOnlyBySelection :
    (match step (arbitrating .arbDeskewWait 7#3 0#8 lineBsy) with
      | .next t => some t.mode
      | .fault _ => none
      | .refused _ => none) = some .initiator ∧
    (arbitrating .arbDeskewWait 7#3 0#8 lineBsy).mode ≠ .initiator := by decide

end Sys2Proof.Tests
end

/-! The scope of one step (R10, R11): a step on a decoded access is the instruction, and one event holds the whole chain
of tail calls. -/

namespace Sys2Proof.Machine

/-- Settles O5: the step takes the oldest event, and an access runs what it decodes to. -/
theorem stepRunsDecodedInstruction : Obligations.StepRunsDecodedInstruction := by
  intro s a rest i hev hdec
  simp only [step, hev, runEvent, hdec]

/-- A chain whose bound covers the rank of its state is whole: no further room changes it. -/
theorem stepChain_add {m : Nat} {r : Reason} {s : State} (h : rank s ≤ m) (n : Nat) :
    stepChain (m + n) r s = stepChain m r s := by
  induction n with
  | zero => rfl
  | succ n ih =>
    calc stepChain (m + n + 1) r s = stepChain (m + n) r s := stepChain_succ (Nat.le_add_right_of_le h)
      _ = stepChain m r s := ih

/-- Settles O56: every state has rank at most six, and a tail call lowers the rank. -/
theorem tailCallsEndWithinSix : Obligations.TailCallsEndWithinSix :=
  fun n _ s => stepChain_add (rank_le s) n

end Sys2Proof.Machine

/-! The memory family (20): the FIFO's law, the counter, the accesses no register answers, and the two directions of the
DMA port. -/

namespace Sys2Proof.Machine

/-! ### The FIFO and the counter -/

theorem fifoHead_cons {s : State} {b : Byte} {rest : List Byte} (h : s.fifo = b :: rest) : fifoHead s = b := by
  simp only [fifoHead, h]

/-- A pop of a FIFO with a byte draws nothing (R105). -/
theorem fifoPop_cons {s : State} {b : Byte} {rest : List Byte} (h : s.fifo = b :: rest) :
    fifoPop s = updateDrq { s with fifo := rest } := by
  simp [fifoPop, h]

/-- A push below the capacity appends its byte (R104). -/
theorem fifoPush_room {s : State} {b : Byte} (h : s.fifo.length < 16) :
    fifoPush b s = updateDrq { s with fifo := s.fifo ++ [b] } := by
  simp [fifoPush, Config.fifoDepth, h]

/-- What the FIFO's history keeps (R106): the bound, and the bytes in their order. -/
structure FifoRun.Ordered (start : List Byte) (r : FifoRun) : Prop where
  bound : r.state.fifo.length ≤ 16
  order : start ++ r.taken = r.given ++ r.state.fifo

theorem FifoRun.Ordered.use {start : List Byte} {r : FifoRun} (h : r.Ordered start) (u : FifoUse) :
    (r.use u).Ordered start := by
  obtain ⟨hb, ho⟩ := h
  cases u with
  | push b =>
    by_cases hroom : r.state.fifo.length < 16
    · exact ⟨by simp [FifoRun.use, Config.fifoDepth, hroom],
        by simp [FifoRun.use, Config.fifoDepth, hroom, ← List.append_assoc, ho]⟩
    · exact ⟨by simp [FifoRun.use, Config.fifoDepth, hroom, hb],
        by simp [FifoRun.use, Config.fifoDepth, hroom, ho]⟩
  | pop =>
    cases hf : r.state.fifo with
    | nil => exact ⟨by simp [FifoRun.use, hf], by simpa [FifoRun.use, hf] using ho⟩
    | cons b rest =>
      rw [hf] at hb ho
      exact ⟨by simp only [FifoRun.use, fifoPop_fifo, hf, List.tail_cons]; exact Nat.le_of_succ_le hb,
        by simpa [FifoRun.use, hf, fifoHead_cons hf] using ho⟩

theorem FifoRun.Ordered.foldl {start : List Byte} (uses : List FifoUse) {r : FifoRun} (h : r.Ordered start) :
    (uses.foldl FifoRun.use r).Ordered start := by
  induction uses generalizing r with
  | nil => exact h
  | cons u _ ih => exact ih (h.use u)

/-- Settles O46: every use keeps the bound and the order. -/
theorem fifoOrderLaw : Obligations.FifoOrderLaw := by
  intro s uses hs
  have start : FifoRun.Ordered s.fifo { state := s, taken := [], given := [] } := ⟨hs, List.append_nil _⟩
  obtain ⟨bound, order⟩ := start.foldl uses
  exact ⟨bound, order⟩

/-- A count goes to 0 from 1 only (R120). -/
theorem pred_beq_zero (c : Count) : (c - 1#16 == 0#16) = (c == 1#16) := by
  rw [Bool.eq_iff_iff, beq_iff_eq, beq_iff_eq, BitVec.sub_eq_iff_eq_add, BitVec.zero_add]

/-- A decrement under a DMA command, TC by the count before it (R120). -/
theorem decrementTcounter_dma {s : State} (h : s.dmaCommand = true) :
    decrementTcounter s =
      updateDrq { s with tcounter := s.tcounter - 1#16, tc := s.tc || s.tcounter == 1#16 } := by
  simp only [decrementTcounter, h, if_true, pred_beq_zero]

/-- Settles O43: the decrement counts modulo 2^16, and its result is 0 from 1 only. -/
theorem counterDecrement : Obligations.CounterDecrement := by
  intro s
  refine ⟨fun h => by simp [decrementTcounter, h],
    fun h => ⟨(decrementTcounter s).notices, (decrementTcounter s).drq, ?_⟩⟩
  have hcount : BitVec.ofNat 16 ((s.tcounter.toNat + 65535) % 65536) = s.tcounter - 1#16 := by
    apply BitVec.eq_of_toNat_eq
    simp only [BitVec.toNat_ofNat, BitVec.toNat_sub]
    omega
  have htc : (if s.tcounter = 1#16 then true else s.tc) = (s.tc || s.tcounter == 1#16) := by
    by_cases h1 : s.tcounter = 1#16 <;> simp [h1]
  rw [hcount, htc, decrementTcounter_dma h]
  rfl

/-! ### Accesses no register answers -/

/-- An answer on a live device changes the byte read only (assumption 8). -/
theorem answer_live {s : State} (b : Byte) (h : s.live) : answer b s = { s with readData := b } := by
  simp only [answer, h]

/-- A live device answers a read of nothing with a free value (R101). -/
theorem answerDraw_live {s : State} (h : s.live) :
    answerDraw s = { s with readData := Config.draw 8 s.draws, draws := s.draws + 1 } :=
  answer_live (s := { s with draws := s.draws + 1 }) _ h

theorem decode_unmappedRead {off : Offset} (h : off ∈ [0x9#4, 0xa#4, 0xd#4, 0xe#4, 0xf#4]) :
    decode (.regRead off) = .error (.unmappedRead off) := by
  revert off; decide

theorem decode_unmappedWrite {off : Offset} (v : Byte) (h : off ∈ [0xd#4, 0xe#4]) :
    decode (.regWrite off v) = .error (.unmappedWrite off v) := by
  simp only [List.mem_cons, List.not_mem_nil, or_false] at h
  obtain rfl | rfl := h <;> rfl

/-- A step on an access the decoder rejects is the rejected access (R101). -/
theorem step_rejected {s : State} {a : Access} {r : Reject} {rest : List Event} (hl : s.live)
    (he : s.events = .access a :: rest) (hd : decode a = .error r) :
    step s = .next (rejectedAccess r { s with events := rest, notices := [] }) := by
  simp only [step, he, runEvent, hd]
  exact event_live (s := { s with events := rest }) hl

/-- Settles O13: an offset no register has is rejected by the decoder; one another variant has, by its own meaning. -/
theorem unmappedAccessesChangeNothing : Obligations.UnmappedAccessesChangeNothing := by
  intro s rest off v hl
  have drawn : answerDraw { s with notices := [] } =
      { s with notices := [], readData := Config.draw 8 s.draws, draws := s.draws + 1 } := answerDraw_live hl
  refine ⟨fun ho he => ?_, fun ho he => ?_, fun hv => ?_, fun hv => ?_⟩
  · rw [step_rejected hl he (decode_unmappedRead ho)]
    exact congrArg _ (answerDraw_live (s := { s with events := rest, notices := [] }) hl)
  · exact step_rejected hl he (decode_unmappedWrite v ho)
  · have absent : hasConfig2 { s with notices := [] } = false := by simp [hasConfig2, hv]
    exact ⟨by simp only [exec, execRdConfig2, event_live hl, absent, drawn, Bool.false_eq_true, if_false],
      by simp only [exec, execWrConfig2, event_live hl, absent, Bool.false_eq_true, if_false]⟩
  · have absent : hasConfig3 { s with notices := [] } = false := by simp [hasConfig3, hv]
    exact ⟨by simp only [exec, execRdConfig3, event_live hl, absent, drawn, Bool.false_eq_true, if_false],
      by simp only [exec, execWrConfig3, event_live hl, absent, Bool.false_eq_true, if_false],
      by simp only [exec, execWrFalign, event_live hl, absent, Bool.false_eq_true, if_false]⟩

/-! ### The DMA port, inward -/

/-- The gate of the DMA port is shut without a request or against its direction (R110, R111). -/
theorem not_requested {s : State} {dir : DmaDir} (h : s.drq = false ∨ s.dmaDir ≠ dir) :
    ¬(s.drq = true ∧ s.dmaDir = dir) := by
  rintro ⟨hq, hd⟩
  rcases h with h | h
  · simp [hq] at h
  · exact h hd

/-- `DMARD` without an inward request (R110). -/
theorem exec_dmard_refused {s : State} (hl : s.live) (h : s.drq = false ∨ s.dmaDir ≠ .inward) :
    exec .dmard s = .next { s with notices := [], fault := some .dmaWithoutRequest } :=
  (event_live hl).trans (congrArg _ (if_neg (not_requested h)))

section
variable {s : State} {b : Byte} {rest : List Byte}

/-- `DMARD` with an inward request: the head, and the sequencer run on what is left (R110). -/
theorem exec_dmard_pop (hl : s.live) (hq : s.drq = true) (hd : s.dmaDir = .inward) (hf : s.fifo = b :: rest) :
    exec .dmard s = .next (answer b (seqStep .signal (updateDrq { s with notices := [], fifo := rest }))) := by
  calc exec .dmard s = .next (dmaRead { s with notices := [] }) := event_live hl
    _ = _ := by
      rw [dmaRead, if_pos ⟨hq, hd⟩, fifoHead_cons (s := { s with notices := [] }) hf,
        fifoPop_cons (s := { s with notices := [] }) hf]

/-- The same, where what the sequencer comes to is known and no fault. -/
theorem exec_dmard_answered {t : State} (hl : s.live) (hq : s.drq = true) (hd : s.dmaDir = .inward)
    (hf : s.fifo = b :: rest) (h : seqStep .signal (updateDrq { s with notices := [], fifo := rest }) = t)
    (ht : t.live) : exec .dmard s = .next { t with readData := b } := by
  rw [exec_dmard_pop hl hq hd hf, h, answer_live b ht]

/-- While inward bytes remain, a request stays up and no edge is put out (R535). -/
theorem updateDrq_inward {f : List Byte} (hq : s.drq = true) (hd : s.dmaDir = .inward) (hf : f ≠ []) :
    updateDrq { s with notices := [], fifo := f } = { s with notices := [], fifo := f } :=
  updateDrq_settled (by simp [drqLevel, hq, hd, List.length_pos_iff.mpr hf])

end

section
variable {s : State}

/-- `INIT_XFR` in an inbound phase with room: receive the next byte (R392). -/
theorem initXfr_inbound (hp : s.xfrPhase ∈ [1#3, 3#3, 7#3]) (hf : s.fifo.length ≠ 16) :
    initXfr s =
      recvByte (goCoarse (if lastMessageIn s then .initXfrRecvByteNack else .initXfrRecvByteAck) s) := by
  have ho : ¬(s.xfrPhase = phDataOut ∨ s.xfrPhase = phCommand ∨ s.xfrPhase = phMessageOut) := by
    revert hp; generalize s.xfrPhase = p; revert p; decide
  have hi : s.xfrPhase = phDataIn ∨ s.xfrPhase = phStatus ∨ s.xfrPhase = phMessageIn := by
    simpa [phDataIn, phStatus, phMessageIn] using hp
  rw [initXfr, if_neg ho, if_pos hi, if_neg hf]

theorem lastMessageIn_iff :
    lastMessageIn s = true ↔ s.xfrPhase = 7#3 ∧ (s.dmaCommand = false ∨ s.tcounter = 1#16) := by
  simp [lastMessageIn, phMessageIn]

/-- A receive begun while the target requests goes straight to the settle delay (R263, R264). -/
theorem seqStep_recvWaitReq1 {req : Bool} (hr : asserted (busCtrl s) lineReq = req) (hc : connected s)
    (hu : s.sub = some .recvWaitReq1) :
    seqStep .signal s =
      if req then { s with sub := some .recvWaitSettle, timer := some s.syncPeriod.toNat } else s := by
  have h : stepOnce .signal s = recvWaitReq1 (busCtrl s) s := stepOnce_sub hc hu
  rw [recvWaitReq1, hr] at h
  cases req with
  | true => exact seqStep_halt h
  | false => exact seqStep_halt h

/-- A transfer held with room again starts its next receive (R392, R263). -/
theorem seqStep_initXfr_inbound {req : Bool} (hr : asserted (busCtrl s) lineReq = req) (hc : connected s)
    (hu : s.sub = none) (hk : s.coarse = .initXfr) (hp : s.xfrPhase ∈ [1#3, 3#3, 7#3]) (hf : s.fifo.length ≠ 16) :
    seqStep .signal s = { s with
      coarse := if s.xfrPhase = 7#3 ∧ (s.dmaCommand = false ∨ s.tcounter = 1#16) then .initXfrRecvByteNack
        else .initXfrRecvByteAck
      sub := some (if req then .recvWaitSettle else .recvWaitReq1)
      timer := if req then some s.syncPeriod.toNat else s.timer } := by
  have h := (stepOnce_at (r := .signal) hc hu hk).trans (initXfr_inbound hp hf)
  simp only [lastMessageIn_iff] at h
  calc seqStep .signal s = seqStep .signal (goSub .recvWaitReq1 (goCoarse _ s)) := seqStep_tail h
    _ = _ := seqStep_recvWaitReq1 hr hc rfl
    _ = _ := by cases req <;> rfl

/-- A finished transfer with nothing left to drain completes with its cause (R399, R400). -/
theorem seqStep_drained {r : Reason} (hc : connected s) (hu : s.sub = none) (hf : s.fifo = [])
    (hk : s.coarse = .initXfrBusComplete ∨ s.coarse = .initXfrFunctionComplete) :
    seqStep r s = complete (if s.coarse = .initXfrBusComplete then 0x10#8 else 0x08#8) s := by
  have drained : drainPending s = false := by simp [drainPending, hf]
  rcases hk with hk | hk <;>
    exact seqStep_halt (by simp [stepOnce_at hc hu hk, dispatchCoarse, initXfrBusComplete, initXfrFunctionComplete,
      drained, halt, busComplete, functionComplete, causeBs, causeFc, hk])

/-- The completing terminal nodes, field by field (R310, R311). -/
theorem complete_eq {c : Byte} (h : c ≠ 0x00#8) : complete c s = { s with
    notices := (complete c s).notices, coarse := .idle, sub := none
    istatus := s.istatus ||| c, irq := true, dmaDir := .off, drq := false } := by
  simp only [complete, setCause, goIdle, updateIrq, updateDrq, irqLevel, drqLevel, or_cause_ne _ _ h]

end

/-- Settles O44: each clause is the sequencer's run on the popped FIFO, answered. -/
theorem dmaReadPort : Obligations.DmaReadPort := by
  intro s hl
  refine ⟨exec_dmard_refused hl, fun b rest hq hd hf => exec_dmard_pop hl hq hd hf, ?_, ?_, ?_⟩
  · intro b rest hq hd hf hb hu hr
    have wait := stepOnce_sub (r := .signal) (s := updateDrq { s with notices := [], fifo := rest })
      (connected_of_bsy hb) hu
    exact exec_dmard_answered hl hq hd hf (seqStep_halt (wait.trans (if_pos hr))) hl
  · intro b rest hq hd hf hlen hb hu hk hp
    have settled := updateDrq_inward (f := rest) hq hd (by rintro rfl; simp at hlen)
    have run := seqStep_initXfr_inbound (s := { s with notices := [], fifo := rest })
      (req := asserted (busCtrl s) lineReq) rfl (connected_of_bsy hb) hu hk hp (by simp [hlen])
    rw [exec_dmard_answered hl hq hd hf ((congrArg (seqStep .signal) settled).trans run) hl]
    cases asserted (busCtrl s) lineReq <;> rfl
  · intro b hq hd hf hb hu hk
    have run := seqStep_drained (r := .signal) (s := updateDrq { s with notices := [], fifo := [] })
      (connected_of_bsy hb) hu rfl hk
    rw [complete_eq (by split <;> decide)] at run
    exact ⟨_, exec_dmard_answered hl hq hd hf run hl⟩

/-! ### The DMA port, outward -/

/-- `DMAWR` without an outward request (R111). -/
theorem exec_dmawr_refused {s : State} {v : Byte} (hl : s.live) (h : s.drq = false ∨ s.dmaDir ≠ .outward) :
    exec (.dmawr v) s = .next { s with notices := [], fault := some .dmaWithoutRequest } :=
  (event_live hl).trans (congrArg _ (if_neg (not_requested h)))

/-- The state `DMAWR` gives the sequencer under a DMA command: the byte pushed and counted, DRQ by its formula
(R104, R120, R535). -/
def dmaWritten (v : Byte) (n : List Notice) (s : State) : State :=
  { s with
    notices := n, fifo := s.fifo ++ [v]
    tcounter := s.tcounter - 1#16
    tc := s.tc || s.tcounter == 1#16
    drq := !(s.tc || s.tcounter == 1#16) && decide (s.fifo.length + 1 < 16) }

/-- Written into an empty FIFO, the byte leaves DRQ up until terminal count. -/
theorem dmaWritten_empty {v : Byte} {n : List Notice} {s : State} (hf : s.fifo = []) :
    dmaWritten v n s = { s with
      notices := n, fifo := [v], tcounter := s.tcounter - 1#16, tc := s.tc || s.tcounter == 1#16
      drq := !(s.tc || s.tcounter == 1#16) } := by
  simp [dmaWritten, hf]

section
variable {s : State} {v : Byte}

/-- An outward request stands until terminal count or a full FIFO (R535). -/
theorem updateDrq_outward (hd : s.dmaDir = .outward) :
    ∃ n, updateDrq s = { s with notices := n, drq := !s.tc && decide (s.fifo.length < 16) } :=
  ⟨(updateDrq s).notices, by simp only [updateDrq, drqLevel, hd]⟩

/-- `DMAWR` with an outward request and room: the byte pushed, counted, and the sequencer run (R111). -/
theorem exec_dmawr_push (hl : s.live) (hq : s.drq = true) (hd : s.dmaDir = .outward) (hf : s.fifo.length < 16) :
    exec (.dmawr v) s = .next (seqStep .signal
      (decrementTcounter (updateDrq { s with notices := [], fifo := s.fifo ++ [v] }))) := by
  calc exec (.dmawr v) s = .next (dmaWrite v { s with notices := [] }) := event_live hl
    _ = _ := by rw [dmaWrite, if_pos ⟨hq, hd⟩, fifoPush_room (s := { s with notices := [] }) hf]

/-- Under a DMA command the sequencer runs on the written state, whatever notices the edges of DRQ put out. -/
theorem exec_dmawr_written (hl : s.live) (hq : s.drq = true) (hd : s.dmaDir = .outward) (hf : s.fifo.length < 16)
    (hc : s.dmaCommand = true) : ∃ n, exec (.dmawr v) s = .next (seqStep .signal (dmaWritten v n s)) := by
  have counted := decrementTcounter_dma (s := updateDrq { s with notices := [], fifo := s.fifo ++ [v] }) hc
  obtain ⟨n, drqSet⟩ := updateDrq_outward (s := { updateDrq { s with notices := [], fifo := s.fifo ++ [v] } with
    tcounter := s.tcounter - 1#16, tc := s.tc || s.tcounter == 1#16 }) hd
  have written := exec_dmawr_push (v := v) hl hq hd hf
  rw [counted.trans drqSet] at written
  refine ⟨n, written.trans ?_⟩
  simp only [dmaWritten, updateDrq, List.length_append, List.length_singleton]

/-- ATN released on a condition, as one update. -/
theorem releaseAtn_ite (c : Prop) [Decidable c] (s : State) :
    (if c then driveCtrl 0#9 lineAtn s else s) =
      { s with ctrlDrive := if c then s.ctrlDrive &&& ~~~lineAtn else s.ctrlDrive } := by
  split
  · simp only [driveCtrl, drive_release]
  · rfl

/-- A send that empties an outward FIFO leaves DRQ up until terminal count (R260, R535). -/
theorem sendByte_outward (hk : s.coarse ≠ .initXfrSendPad) (hf : s.fifo = [v]) (hd : s.dmaDir = .outward) :
    ∃ n, sendByte s = halt { s with
      notices := n, fifo := [], drq := !s.tc
      sub := some .sendWaitSettle, dataDrive := v, ctrlDrive := s.ctrlDrive ||| lineAck
      timer := some s.syncPeriod.toNat } :=
  let ⟨n, drqSet⟩ := updateDrq_outward (s := { s with fifo := [] }) hd
  ⟨n, by rw [sendByte_some hk hf, drqSet]; simp⟩

/-- `INIT_XFR` in an outbound phase with a byte: send it, the last of a message with ATN released (R392). -/
theorem initXfr_outbound (hp : s.xfrPhase ∈ [0#3, 2#3, 6#3]) (hf : s.fifo ≠ []) :
    initXfr s =
      sendByte (goCoarse .initXfrSendByte (if lastMessageOut s then driveCtrl 0#9 lineAtn s else s)) := by
  have ho : s.xfrPhase = phDataOut ∨ s.xfrPhase = phCommand ∨ s.xfrPhase = phMessageOut := by
    simpa [phDataOut, phCommand, phMessageOut] using hp
  rw [initXfr, if_pos ho, if_neg hf]

theorem lastMessageOut_single (hf : s.fifo = [v]) (hc : s.dmaCommand = true) :
    lastMessageOut s = true ↔ s.xfrPhase = 6#3 ∧ s.tc = true := by
  simp [lastMessageOut, phMessageOut, hf, hc]

/-- The current command is its byte without the D bit (R150, R230). -/
theorem currentIs_iff (k : Cmd) : currentIs s k = true ↔ s.command0.extractLsb' 0 7 = k.code := by
  simp [currentIs, cmdCode, BitVec.setWidth_eq_extractLsb']

/-- `DISC_SEL_ATN_WAIT_REQ` with a byte and a request in Message Out: send it, SELATN's with ATN released (R374). -/
theorem discSelAtnWaitReq_send {ctrl : Lines} (hr : asserted ctrl lineReq = true) (hp : phaseOf ctrl = phMessageOut)
    (hf : s.fifo ≠ []) :
    discSelAtnWaitReq ctrl s =
      sendByte (goCoarse .discSelAtnSendByte (if currentIs s .selatn then driveCtrl 0#9 lineAtn s else s)) := by
  simp only [discSelAtnWaitReq, hr, hp, hf, Bool.not_true, Bool.false_eq_true, ne_eq, not_true_eq_false, if_false]

/-- `DISC_SEL_WAIT_REQ` with a byte and a request in Command: send it (R376). -/
theorem discSelWaitReq_send {ctrl : Lines} (hr : asserted ctrl lineReq = true) (hp : phaseOf ctrl = phCommand)
    (hn : s.commandLength ≠ 0) (hf : s.fifo ≠ []) :
    discSelWaitReq ctrl s =
      sendByte (goCoarse .discSelSendByte { s with seq := if s.seq < 3#3 then 3#3 else s.seq }) := by
  simp only [discSelWaitReq, hr, hp, hn, hf, Bool.not_true, Bool.false_eq_true, ne_eq, not_true_eq_false, or_self,
    if_false]

/-- Where the coarse handler sends the byte just written, `DMAWR` ends at the settle delay (R111, R260). -/
theorem exec_dmawr_sent {n : List Notice} {c : Coarse} {t : State}
    (run : exec (.dmawr v) s = .next (seqStep .signal (dmaWritten v n s))) (hc : connected (dmaWritten v n s))
    (hu : s.sub = none) (hk : s.coarse = c) (sends : dispatchCoarse c (busCtrl s) (dmaWritten v n s) = sendByte t)
    (ht : t.coarse ≠ .initXfrSendPad) (hf : t.fifo = [v]) (hd : t.dmaDir = .outward) :
    ∃ m, exec (.dmawr v) s = .next { t with
      notices := m, fifo := [], drq := !t.tc
      sub := some .sendWaitSettle, dataDrive := v, ctrlDrive := t.ctrlDrive ||| lineAck
      timer := some t.syncPeriod.toNat } :=
  let ⟨m, sent⟩ := sendByte_outward ht hf hd
  ⟨m, run.trans (congrArg _ (seqStep_halt (((stepOnce_at hc hu hk).trans sends).trans sent)))⟩

/-- A selection with its length fixed takes its path, and runs the wait at once where the target requests (R373). -/
theorem seqStep_discSelArbitration {req : Bool} (hr : asserted (busCtrl s) lineReq = req) (hc : connected s)
    (hu : s.sub = none) (hk : s.coarse = .discSelArbitration) :
    let begun :=
      goCoarse (if s.command0.extractLsb' 0 7 = 0x41#7 then .discSelWaitReq else .discSelAtnWaitReq) s
    seqStep .signal s = if req then seqStep .signal begun else begun := by
  have path := stepOnce_at (r := .signal) hc hu hk
  simp only [dispatchCoarse, discSelArbitration, hr, currentIs_iff] at path
  cases req with
  | true => exact seqStep_tail path
  | false => exact seqStep_halt path

/-- A selection not yet begun, with one byte under a DMA command: that byte and the count are its length (R372). -/
theorem seqStep_discSelArbitrationInit (hc : connected s) (hu : s.sub = none)
    (hk : s.coarse = .discSelArbitrationInit) (hf : s.fifo = [v]) (hd : s.dmaCommand = true) :
    seqStep .signal s =
      seqStep .signal (goCoarse .discSelArbitration { s with commandLength := 1 + s.tcounter.toNat }) := by
  refine seqStep_tail (r' := .signal) ((stepOnce_at hc hu hk).trans ?_)
  simp [dispatchCoarse, discSelArbitrationInit, stepAgain, hf, hd]

end

/-- Settles O45: each clause is the sequencer's run on the written state. -/
theorem dmaWritePort : Obligations.DmaWritePort := by
  intro s v hl
  refine ⟨exec_dmawr_refused hl, exec_dmawr_push hl, ?_, ?_⟩
  · intro hq hd hf hc hb hu
    obtain ⟨n, run⟩ := exec_dmawr_written (v := v) hl hq hd hf hc
    have held : connected (dmaWritten v n s) := hb.elim connected_of_mode connected_of_bsy
    refine ⟨n, run.trans (congrArg _ (seqStep_halt ?_))⟩
    rcases hu with hu | hu <;> exact stepOnce_sub held hu
  · intro hq hd hf hc hu hb
    obtain ⟨n, run⟩ := exec_dmawr_written (v := v) hl hq hd (by simp [hf]) hc
    have held : connected (dmaWritten v n s) := connected_of_bsy hb
    have only : (dmaWritten v n s).fifo = [v] := by simp [dmaWritten, hf]
    have filled : (dmaWritten v n s).fifo ≠ [] := by simp [only]
    refine ⟨fun hk hp => ?_, fun hk hr hp => ?_, fun hk hr hp hn => ?_, fun hk => ?_⟩
    · have sends := initXfr_outbound (s := dmaWritten v n s) hp filled
      rw [releaseAtn_ite] at sends
      simp only [lastMessageOut_single only hc] at sends
      exact exec_dmawr_sent run held hu hk sends (by simp) only hd
    · have sends := discSelAtnWaitReq_send (s := dmaWritten v n s) hr hp filled
      rw [releaseAtn_ite] at sends
      simp only [currentIs_iff] at sends
      exact exec_dmawr_sent run held hu hk sends (by simp) only hd
    · have sends := discSelWaitReq_send (s := dmaWritten v n s) hr hp hn filled
      exact exec_dmawr_sent run held hu hk sends (by simp) only hd
    · have path := seqStep_discSelArbitration (s := goCoarse .discSelArbitration { dmaWritten v n s with
        commandLength := 1 + (s.tcounter - 1#16).toNat }) (req := asserted (busCtrl s) lineReq) rfl held hu rfl
      have begun := (seqStep_discSelArbitrationInit held hu hk only hc).trans path
      rw [dmaWritten_empty hf] at begun run
      exact ⟨n, run.trans (congrArg _ begun)⟩

end Sys2Proof.Machine

/-! The encoding family (30): decoding and encoding invert each other, the validity table by its codes, and a command's
byte written at offset 0x3. -/

namespace Sys2Proof.Machine

/-! ### Decoding and encoding -/

theorem encode_instr (k : Cmd) (d : Bool) : encode (k.instr d) = .cmd (k.byte d) := by cases k <;> rfl

theorem decode_byte (k : Cmd) (d : Bool) : decode (.cmd (k.byte d)) = .ok (k.instr d) := by
  simp only [decode, cmdCode_byte, decodeCmd_code, cmdDma_byte]

/-- Settles O1: a command's byte decodes to the command with its D bit; every other row is a line of the register map or
the DMA port. -/
theorem decodeInvertsEncode : Obligations.DecodeInvertsEncode := by
  intro i
  cases i with
  | nop d | flush d | reset d | resetbus d | cmd04 d
  | xfer d | iccs d | msgacc d | pad d | setatn d | resetatn d
  | sendmsg d | sendstatus d | senddata d | discseq d | termseq d | tccs d | disconnect d
  | recvmsg d | recvcmd d | recvdata d | recvcmdseq d
  | reselect d | select d | selatn d | selatnstop d | ensel d | dissel d | selatn3 d => exact decode_byte _ d
  | _ => rfl

theorem encode_of_decodeRead {off : Offset} {i : Instr} (h : decodeRead off = .ok i) : encode i = .regRead off := by
  unfold decodeRead at h
  split at h <;> cases h <;> exact congrArg Access.regRead (BitVec.eq_of_toNat_eq (Eq.symm ‹_›))

theorem encode_of_decodeWrite {off : Offset} {v : Byte} {i : Instr} (h : decodeWrite off v = .ok i) :
    encode i = .regWrite off v := by
  unfold decodeWrite at h
  split at h <;> cases h <;> exact congrArg (Access.regWrite · v) (BitVec.eq_of_toNat_eq (Eq.symm ‹_›))

/-- A command byte decodes to the command of its code with its D bit, and to nothing else (R150). -/
theorem decode_cmd_ok {v : Byte} {i : Instr} (h : decode (.cmd v) = .ok i) :
    ∃ k, decodeCmd (cmdCode v) = some k ∧ i = k.instr (cmdDma v) := by
  simp only [decode] at h
  split at h
  next k hk => exact ⟨k, hk, (Except.ok.inj h).symm⟩
  next => cases h

/-- Settles O2: in each format the access is made up again from what the decoder read of it. -/
theorem encodeInvertsDecode : Obligations.EncodeInvertsDecode := by
  intro a i h
  cases a with
  | cmd v =>
    obtain ⟨k, hk, rfl⟩ := decode_cmd_ok h
    rw [encode_instr, byte_of_decodeCmd hk]
  | regRead off => exact encode_of_decodeRead h
  | regWrite off v => exact encode_of_decodeWrite h
  | dmaRead => cases h; rfl
  | dmaWrite v => cases h; rfl

/-- Settles O3: each word is the byte of its command, or a line of the register map. -/
theorem sampleWordsDecode : Obligations.SampleWordsDecode :=
  ⟨decode_byte .flush false, decode_byte .xfer true, decode_byte .recvcmdseq false, decode_byte .selatn true,
    rfl, rfl, rfl, rfl⟩

/-! ### The validity table -/

/-- The codes valid for a variant in a mode: R153's four groups, each with the codes the variant has. The rule reads a
code by its two fields, the table by its value; they agree on each of the 128 codes. -/
theorem commandValid_iff (var : Config.Variant) (m : Mode) (c : CmdCode) :
    commandValid var m c = true ↔
      c ∈ [0x00#7, 0x01#7, 0x02#7, 0x03#7] ∨
      (c = 0x04#7 ∧ var ≠ .ncr5390) ∨
      (m = .initiator ∧ c ∈ [0x10#7, 0x11#7, 0x12#7, 0x18#7, 0x1a#7, 0x1b#7]) ∨
      (m = .target ∧ c ∈ [0x20#7, 0x21#7, 0x22#7, 0x23#7, 0x24#7, 0x25#7, 0x27#7, 0x28#7, 0x29#7, 0x2a#7, 0x2b#7]) ∨
      (m = .disconnected ∧ c ∈ [0x40#7, 0x41#7, 0x42#7, 0x43#7, 0x44#7, 0x45#7]) ∨
      (m = .disconnected ∧ c = 0x46#7 ∧ var ≠ .ncr5390) := by
  revert c
  cases var <;> cases m <;> decide +kernel

/-- A code among those of some commands the variant has is the code of one of them. -/
theorem command_of_mem {var : Config.Variant} {c : CmdCode} (ks : List Cmd) (hc : c ∈ ks.map Cmd.code)
    (hw : (ks.all fun k => (k.instr false).wellFormed var) = true) :
    ∃ k, decodeCmd c = some k ∧ k.code = c ∧ (k.instr false).wellFormed var = true := by
  obtain ⟨k, hk, rfl⟩ := List.mem_map.mp hc
  exact ⟨k, decodeCmd_code k, rfl, List.all_eq_true.mp hw k hk⟩

/-- Settles O4: the table code by code; each of its groups is the codes of commands the variant has. -/
theorem validCodesHaveACommand : Obligations.ValidCodesHaveACommand := by
  intro var m c
  refine ⟨commandValid_iff var m c, fun h => ?_⟩
  rcases (commandValid_iff var m c).mp h with hc | ⟨rfl, hv⟩ | ⟨-, hc⟩ | ⟨-, hc⟩ | ⟨-, hc⟩ | ⟨-, rfl, hv⟩
  · exact command_of_mem [.nop, .flush, .reset, .resetbus] hc rfl
  · exact ⟨.cmd04, rfl, rfl, bne_iff_ne.mpr hv⟩
  · exact command_of_mem [.xfer, .iccs, .msgacc, .pad, .setatn, .resetatn] hc rfl
  · exact command_of_mem [.sendmsg, .sendstatus, .senddata, .discseq, .termseq, .tccs, .disconnect, .recvmsg, .recvcmd,
      .recvdata, .recvcmdseq] hc rfl
  · exact command_of_mem [.reselect, .select, .selatn, .selatnstop, .ensel, .dissel] hc rfl
  · exact ⟨.selatn3, rfl, rfl, bne_iff_ne.mpr hv⟩

/-! ### The write of a command byte -/

/-- A command byte as an event is its write into the queue, whether or not it has a command (R154, R300). -/
theorem step_cmd (v : Byte) (s : State) (rest : List Event) :
    step { s with events := .access (.cmd v) :: rest } = event (commandWrite v) { s with events := rest } := by
  simp only [step, runEvent, decode]
  cases hk : decodeCmd (cmdCode v) with
  | some k => exact (exec_instr k (cmdDma v) _).trans (by rw [byte_of_decodeCmd hk])
  | none => rfl

/-- Settles O6: both are the write of the byte into the queue. -/
theorem mnemonicIsItsByteWrite : Obligations.MnemonicIsItsByteWrite :=
  ⟨exec_instr, step_cmd⟩

/-- The seven code bits of a command byte, read by a mask as by the decoder (R150). -/
theorem masked_eq_cmdCode (v : Byte) : v &&& 0x7f#8 = (cmdCode v).setWidth 8 := by
  revert v
  decide +kernel

theorem masked_mem_iff (v : Byte) (cs : List CmdCode) :
    v &&& 0x7f#8 ∈ cs.map (BitVec.setWidth 8) ↔ cmdCode v ∈ cs := by
  have widens : Function.Injective (BitVec.setWidth 8 : CmdCode → Byte) := fun a b h => by bv_omega
  rw [masked_eq_cmdCode, List.mem_map_of_injective widens]

theorem masked_eq_iff (v : Byte) (c : CmdCode) : v &&& 0x7f#8 = c.setWidth 8 ↔ cmdCode v = c := by
  simpa using masked_mem_iff v [c]

/-- A cause taken: it is added to the status, and IRQ is up (R530, R531). -/
theorem setCause_eq {c : Byte} (h : c ≠ 0x00#8) (s : State) : setCause c s = { s with
    notices := s.notices ++ (if s.irq then [] else [.irq true]), istatus := s.istatus ||| c, irq := true } := by
  have up := or_cause_ne s.istatus c h
  cases hq : s.irq <;> simp [setCause, updateIrq, irqLevel, up, hq]

/-- A byte that is not valid, written into the empty queue of a live device: ILL, IRQ, and the byte in slot 0 (R305). -/
theorem exec_wrCmd_invalid {s : State} {v : Byte} (hl : s.live) (hq : s.queueEmpty)
    (hv : commandValid s.params.variant s.mode (cmdCode v) = false) :
    exec (.wrCmd v) s = .next { s with
      notices := if s.irq then [] else [.irq true]
      command0 := v, cmdCount := 1, istatus := s.istatus ||| 0x40#8, irq := true } := by
  calc exec (.wrCmd v) s = .next (commandWrite v { s with notices := [] }) := event_live hl
    _ = .next (startOnly { s with notices := [], command0 := v, cmdCount := 1 }) :=
      congrArg _ (commandWrite_empty (s := { s with notices := [] }) hq)
    _ = .next (setCause causeIll { s with notices := [], command0 := v, cmdCount := 1 }) :=
      congrArg _ (startOnly_invalid hv)
    _ = _ := congrArg _ (setCause_eq (by decide) _)

/-- Settles O20: outside R153's table the byte is not valid, and a byte that is not valid sets ILL. -/
theorem illegalCommandSetsIll : Obligations.IllegalCommandSetsIll := by
  intro s v hl hq c h0 h04 hi ht hd h46
  refine exec_wrCmd_invalid hl hq ?_
  rw [← Bool.not_eq_true, commandValid_iff]
  rintro (hc | ⟨hc, hv⟩ | ⟨hm, hc⟩ | ⟨hm, hc⟩ | ⟨hm, hc⟩ | ⟨hm, hc, hv⟩)
  · exact h0 ((masked_mem_iff v _).mpr hc)
  · exact h04 hv ((masked_eq_iff v _).mpr hc)
  · exact hi hm ((masked_mem_iff v _).mpr hc)
  · exact ht hm ((masked_mem_iff v _).mpr hc)
  · exact hd hm ((masked_mem_iff v _).mpr hc)
  · exact h46 hm hv ((masked_eq_iff v _).mpr hc)

end Sys2Proof.Machine

/-! The bus and the timer (40): a step on a change of the other devices' drive, and one on an expiry of the timer. -/

namespace Sys2Proof.Machine

section
variable {s : State} {rest : List Event}

/-! ### A change of the other devices' drive -/

/-- A bus change of a live device as a step (R10, R204). -/
theorem step_bus {c : Lines} {b : Byte} (hl : s.live) (he : s.events = .bus c b :: rest) :
    step s = .next (busChange c b { s with notices := [], events := rest }) := by
  simp only [step, he, runEvent]
  exact event_live hl

/-- The control lines seen do not change: the new drive is recorded and nothing else runs (R205). -/
theorem busChange_unseen {c : Lines} {b : Byte} (h : busCtrl { s with envCtrl := c, envData := b } = busCtrl s) :
    busChange c b s = { s with envCtrl := c, envData := b } :=
  if_pos h

/-- A change seen is answered by the bus-reset response under RST, by `Step(Signal)` without it (R205). -/
theorem busChange_seen {c : Lines} {b : Byte} (h : busCtrl { s with envCtrl := c, envData := b } ≠ busCtrl s) :
    busChange c b s =
      if asserted (busCtrl { s with envCtrl := c, envData := b }) lineRst then
        busReset { s with envCtrl := c, envData := b }
      else seqStep .signal { s with envCtrl := c, envData := b } :=
  if_neg h

/-! ### The timer -/

/-- An expiry at a live device as a step (R10, R211). -/
theorem step_timer (hl : s.live) (he : s.events = .timer :: rest) :
    step s = .next (timerExpiry { s with notices := [], events := rest }) := by
  simp only [step, he, runEvent]
  exact event_live hl

theorem timerExpiry_armed (h : s.timer.isSome = true) : timerExpiry s = seqStep .timeout { s with timer := none } := by
  obtain ⟨n, hn⟩ := Option.isSome_iff_exists.mp h
  simp only [timerExpiry, hn]

theorem timerExpiry_disarmed (h : s.timer = none) : timerExpiry s = s := by
  simp only [timerExpiry, h]

/-- `Step` at IDLE does nothing, for either reason (R236). -/
theorem seqStep_idle {r : Reason} (hc : connected s) (hk : s.coarse = .idle) (hu : s.sub = none) : seqStep r s = s :=
  seqStep_halt (stepOnce_at hc hu hk)

/-- An expiry at IDLE disarms the timer and does nothing else (R213). -/
theorem timerExpiry_idle (hc : connected s) (hk : s.coarse = .idle) (hu : s.sub = none) :
    timerExpiry s = { s with timer := none } := by
  cases ht : s.timer with
  | none => rw [timerExpiry_disarmed ht, ← ht]
  | some n => exact (timerExpiry_armed (by rw [ht]; rfl)).trans (seqStep_idle hc hk hu)

end

/-- Settles O49: the three cases are the branches of `busChange`. -/
theorem busChangeNotifies : Obligations.BusChangeNotifies := by
  intro s c b rest hl he t
  have run := step_bus hl he
  refine ⟨fun same => ?_, fun changed rst => ?_, fun changed noRst => ?_⟩
  · rw [run, busChange_unseen (s := { s with notices := [], events := rest }) same]
  · rw [run, busChange_seen (s := { s with notices := [], events := rest }) changed, if_pos rst]
  · rw [run, busChange_seen (s := { s with notices := [], events := rest }) changed,
      if_neg (Bool.eq_false_iff.mp noRst)]

/-- Settles O51: the two cases of the timer, and at IDLE the sequencer's answer to either reason. (`timerExpiry` is the
model's own function.) -/
theorem timerExpiryLaw : Obligations.TimerExpiry := by
  refine ⟨fun s rest hl he => ⟨fun armed => ?_, fun disarmed => ?_⟩, fun s r hk hu hc => ?_⟩
  · exact (step_timer hl he).trans (congrArg _ (timerExpiry_armed armed))
  · exact (step_timer hl he).trans (congrArg _ (timerExpiry_disarmed disarmed))
  · have held : connected s := hc.elim connected_of_mode connected_of_bsy
    exact ⟨seqStep_idle held hk hu,
      fun rest hl he => (step_timer hl he).trans (congrArg _ (timerExpiry_idle held hk hu))⟩

end Sys2Proof.Machine

/-! The sequencer family (41): what a whole step may do to the fault and to the mode, by induction over the chain of
tail calls. BadState is never raised, and mode Initiator is entered at the deskew delay only. -/

namespace Sys2Proof.Machine

/-! ### The chain -/

/-- An invocation that ends in one of two ways, and so the event. -/
theorem seqStep_halt_ite {c : Prop} [Decidable c] {r : Reason} {s t u : State}
    (h : stepOnce r s = if c then halt t else halt u) : seqStep r s = if c then t else u :=
  seqStep_halt (h.trans (apply_ite halt c t u).symm)

/-- Induction over the chain of tail calls of one event, which ends because a tail call lowers the rank (R231). -/
theorem seqStep_induction {P : Reason → State → State → Prop}
    (halts : ∀ r s t, stepOnce r s = (t, none) → P r s t)
    (calls : ∀ r r' s t u, stepOnce r s = (t, some r') → P r' t u → P r s u)
    (r : Reason) (s : State) : P r s (seqStep r s) := by
  rcases h : stepOnce r s with ⟨t, _ | r'⟩
  · rw [seqStep_halt h]
    exact halts r s t h
  · rw [seqStep_tail h]
    exact calls r r' s t _ h (seqStep_induction halts calls r' t)
termination_by rank s
decreasing_by exact rank_stepOnce h

/-! ### One invocation -/

/-- The fault and the mode are left as they were. -/
structure Steady (s t : State) : Prop where
  fault : t.fault = s.fault
  mode : t.mode = s.mode

section
variable {s : State}

/-- A send that has a byte, or needs none, raises nothing (R260). -/
theorem steady_sendByte (h : s.coarse = .initXfrSendPad ∨ s.fifo ≠ []) : Steady s (sendByte s).1 := by
  by_cases hk : s.coarse = .initXfrSendPad
  · rw [sendByte_pad hk]
    exact ⟨rfl, rfl⟩
  · obtain ⟨b, rest, hf⟩ := List.exists_cons_of_ne_nil (h.resolve_left hk)
    rw [sendByte_some hk hf]
    exact ⟨rfl, rfl⟩

/-- A send on a state that differs from `s` elsewhere only. -/
theorem Steady.send {t : State} (h : Steady s t) (hb : t.coarse = .initXfrSendPad ∨ t.fifo ≠ []) :
    Steady s (sendByte t).1 :=
  have hs := steady_sendByte hb
  ⟨hs.fault.trans h.fault, hs.mode.trans h.mode⟩

theorem steady_discSelAtnWaitReq (ctrl : Lines) : Steady s (discSelAtnWaitReq ctrl s).1 := by
  unfold discSelAtnWaitReq
  split_ifs with hr hp hf
  · exact ⟨rfl, rfl⟩
  · exact ⟨functionComplete_fault s, functionComplete_mode s⟩
  · exact ⟨rfl, rfl⟩
  all_goals exact Steady.send ⟨rfl, rfl⟩ (.inr hf)

theorem steady_discSelWaitReq (ctrl : Lines) : Steady s (discSelWaitReq ctrl s).1 := by
  unfold discSelWaitReq
  split_ifs with hr hp hf
  · exact ⟨rfl, rfl⟩
  · exact ⟨functionComplete_fault _, functionComplete_mode _⟩
  · exact ⟨rfl, rfl⟩
  all_goals exact Steady.send ⟨rfl, rfl⟩ (.inr hf)

theorem steady_initXfr : Steady s (initXfr s).1 := by
  unfold initXfr
  split_ifs with ho hf hl hi hr
  · exact ⟨rfl, rfl⟩
  · exact Steady.send ⟨rfl, rfl⟩ (.inr hf)
  · exact Steady.send ⟨rfl, rfl⟩ (.inr hf)
  · exact ⟨rfl, rfl⟩
  · exact ⟨rfl, rfl⟩
  · exact ⟨rfl, rfl⟩
  · exact ⟨functionComplete_fault s, functionComplete_mode s⟩

theorem steady_initXfrSendPadWaitReq (ctrl : Lines) : Steady s (initXfrSendPadWaitReq ctrl s).1 := by
  unfold initXfrSendPadWaitReq
  split_ifs with hr hp
  · exact ⟨rfl, rfl⟩
  · exact ⟨busComplete_fault s, busComplete_mode s⟩
  · exact Steady.send ⟨rfl, rfl⟩ (.inl rfl)

/-- Every coarse handler is steady (R232): the four that send have a byte or need none, the others raise nothing. -/
theorem steady_dispatchCoarse (c : Coarse) (ctrl : Lines) : Steady s (dispatchCoarse c ctrl s).1 := by
  cases c with
  | discSelAtnWaitReq => exact steady_discSelAtnWaitReq ctrl
  | discSelWaitReq => exact steady_discSelWaitReq ctrl
  | initXfr => exact steady_initXfr
  | initXfrSendPadWaitReq => exact steady_initXfrSendPadWaitReq ctrl
  | idle | initXfrSendByte | initXfrRecvByteAck | initXfrRecvByteNack | initCptRecvByteAck | initCptRecvByteNack
  | discSelSendByte =>
    constructor <;> simp [dispatchCoarse, halt, stepAgain, initXfrSendByte, initXfrRecvByteAck, initXfrRecvByteNack,
      initCptRecvByteAck, initCptRecvByteNack, discSelSendByte]
  | discSelArbitrationInit | discSelArbitration | discSelAtnSendByte | initXfrWaitReq | initXfrFunctionComplete
  | initXfrBusComplete | initCptRecvWaitReq | initMsgWaitReq | initXfrSendPad | initXfrRecvPadWaitReq
  | initXfrRecvPad =>
    simp only [dispatchCoarse, discSelArbitrationInit, discSelArbitration, discSelAtnSendByte, initXfrWaitReq,
      initXfrFunctionComplete, initXfrBusComplete, initCptRecvWaitReq, initMsgWaitReq, initXfrSendPad,
      initXfrRecvPadWaitReq, initXfrRecvPad, halt, stepAgain, recvByte]
    split_ifs <;> constructor <;> simp

end

/-- What an invocation with a reason may do to the fault and the mode: raise no BadState (R237, R260), and enter mode
Initiator at the expiry of the deskew delay only (R257). -/
structure Tame (r : Reason) (s t : State) : Prop where
  fault : t.fault = some .badState → s.fault = some .badState
  mode : t.mode = .initiator → s.mode = .initiator ∨ (r = .timeout ∧ s.sub = some .arbDeskewWait)

/-- From a live state no BadState comes of it. -/
theorem Tame.fault_ne {r : Reason} {s t : State} (h : Tame r s t) (live : s.live) : t.fault ≠ some .badState := by
  intro bad
  cases live.symm.trans (h.fault bad)

theorem Steady.tame {r : Reason} {s t : State} (h : Steady s t) : Tame r s t :=
  ⟨fun hf => h.fault ▸ hf, fun hm => .inl (h.mode ▸ hm)⟩

section
variable {r : Reason} {s : State}

theorem steady_arbReleaseBusy (ctrl : Lines) : Steady s (arbReleaseBusy ctrl s).1 := by
  unfold arbReleaseBusy
  split <;> exact ⟨rfl, rfl⟩

theorem steady_arbTimeoutBusy (ctrl : Lines) : Steady s (arbTimeoutBusy r ctrl s).1 := by
  cases r with
  | timeout => exact ⟨rfl, rfl⟩
  | signal =>
    simp only [arbTimeoutBusy]
    split <;> exact ⟨rfl, rfl⟩

/-- A change that ends in mode Disconnected is tame for any reason. -/
theorem tame_disconnected {t : State} (hf : t.fault = s.fault) (hm : t.mode = .disconnected) : Tame r s t :=
  ⟨fun bad => hf ▸ bad, fun init => by cases hm.symm.trans init⟩

/-- A lost arbitration raises ArbitrationLost, and nothing else (R251). -/
theorem tame_arbComplete (data : Byte) : Tame r s (arbComplete data s).1 := by
  unfold arbComplete
  split
  · exact ⟨id, .inl⟩
  · exact ⟨nofun, .inl⟩

/-- An abort leaves mode Disconnected (R256). -/
theorem tame_arbTimeoutAbort (ctrl : Lines) : Tame r s (arbTimeoutAbort ctrl s).1 := by
  unfold arbTimeoutAbort
  split
  · exact ⟨id, .inl⟩
  · exact tame_disconnected (by simp [halt]) (by simp [halt])

/-- A handler that waits for elapsed time is tame where its act is (R231). -/
theorem tame_onTimeout {act : State → Micro} (h : Tame .timeout s (act s).1) : Tame r s (onTimeout r act s).1 := by
  cases r with
  | timeout => exact h
  | signal => exact ⟨id, .inl⟩

theorem tame_dispatchSub {u : Sub} {ctrl : Lines} {data : Byte} (hu : s.sub = some u) :
    Tame r s (dispatchSub u r ctrl data s).1 := by
  cases u with
  | arbComplete => exact tame_onTimeout (tame_arbComplete data)
  | arbAssertSel | arbSetDest | sendWaitSettle => exact tame_onTimeout ⟨id, .inl⟩
  | arbReleaseBusy => exact tame_onTimeout (steady_arbReleaseBusy ctrl).tame
  | arbTimeoutBusy => exact (steady_arbTimeoutBusy ctrl).tame
  | arbTimeoutAbort => exact tame_onTimeout (tame_arbTimeoutAbort ctrl)
  | arbDeskewWait => exact tame_onTimeout ⟨id, fun _ => .inr ⟨rfl, hu⟩⟩
  | recvWaitSettle =>
    refine tame_onTimeout (Steady.tame ?_)
    simp only [recvWaitSettle, stepAgain]
    split <;> exact ⟨rfl, rfl⟩
  | sendWaitReq0 | recvWaitReq1 | recvWaitReq0 =>
    refine Steady.tame ?_
    simp only [dispatchSub, sendWaitReq0, recvWaitReq1, recvWaitReq0]
    split <;> exact ⟨rfl, rfl⟩

theorem tame_stepOnce (r : Reason) (s : State) : Tame r s (stepOnce r s).1 := by
  by_cases hc : connected s
  · cases hs : s.sub with
    | some u =>
      rw [stepOnce_sub hc hs]
      exact tame_dispatchSub hs
    | none =>
      rw [stepOnce_coarse hc hs]
      exact (steady_dispatchCoarse _ _).tame
  · rw [stepOnce_released hc]
    exact tame_disconnected (by simp) (by simp)

/-- A whole chain is as tame as its first invocation: no tail call goes to the deskew delay. -/
theorem tame_seqStep (r : Reason) (s : State) : Tame r s (seqStep r s) := by
  refine seqStep_induction (fun r s t h => ?_) (fun r r' s t u h tame => ?_) r s
  · simpa [h] using tame_stepOnce r s
  · have first : Tame r s t := by simpa [h] using tame_stepOnce r s
    exact ⟨first.fault ∘ tame.fault, fun init =>
      first.mode ((tame.mode init).resolve_right fun deskew => (carried_stepOnce h).notDeskew deskew.2)⟩

end

/-! ### Events -/

section
variable {s : State}

/-- What runs after a steady change, and is no expiry of the timer, is tame from the state before it. -/
theorem Tame.after {t u : State} (h' : Tame .signal t u) (h : Steady s t) : Tame .signal s u :=
  ⟨fun bad => h.fault ▸ h'.fault bad, fun init => .inl (h.mode ▸ (h'.mode init).resolve_right (by simp))⟩

theorem tame_unimplemented : Tame .signal s (unimplemented s).1 := ⟨nofun, .inl⟩

/-- No command raises BadState or enters mode Initiator when it starts. -/
theorem tame_commandRule (k : Cmd) : Tame .signal s (commandRule k s).1 := by
  cases k with
  | nop | flush | setatn | resetatn | ensel | dissel => exact Steady.tame ⟨rfl, rfl⟩
  | select | selatn | selatnstop => exact Steady.tame ⟨beginSelection_fault s, beginSelection_mode s⟩
  | reset =>
    simp only [commandRule, startReset, runs]
    exact tame_disconnected (hardReset_fault s) (hardReset_mode s)
  | resetbus =>
    simp only [commandRule, startResetbus, runs]
    split <;> exact tame_disconnected (softReset_fault s) (softReset_mode s)
  | xfer | iccs | msgacc | pad => exact (tame_seqStep .signal _).after ⟨rfl, rfl⟩
  | cmd04 | sendmsg | sendstatus | senddata | discseq | termseq | tccs | disconnect | recvmsg | recvcmd | recvdata
  | recvcmdseq | reselect | selatn3 => exact tame_unimplemented

/-- A valid code has a command, so a start does not raise BadState either (R308). -/
theorem tame_startCommand : Tame .signal s (startCommand s).1 := by
  unfold startCommand
  split_ifs with hv
  · obtain ⟨k, hk, -⟩ := (validCodesHaveACommand s.params.variant s.mode (cmdCode s.command0)).2 hv
    rw [hk]
    exact (tame_commandRule k).after ⟨dmaReload_fault s, dmaReload_mode s⟩
  · exact Steady.tame ⟨setCause_fault _ s, setCause_mode _ s⟩

theorem tame_startOnly : Tame .signal s (startOnly s) := by
  rw [startOnly_eq, settled]
  split <;> exact ⟨tame_startCommand.fault, tame_startCommand.mode⟩

theorem tame_popAndChain : Tame .signal s (popAndChain s) := by
  unfold popAndChain
  split
  · exact tame_startOnly.after ⟨rfl, rfl⟩
  · exact ⟨id, .inl⟩

theorem tame_commandWrite (v : Byte) : Tame .signal s (commandWrite v s) := by
  have queue : Steady s (commandQueue v s) := by
    unfold commandQueue
    split <;> exact ⟨rfl, rfl⟩
  unfold commandWrite
  simp only
  split_ifs
  · exact Steady.tame ⟨queue.fault, queue.mode⟩
  · exact Steady.tame ⟨queue.fault, queue.mode⟩
  · exact tame_startOnly.after ⟨queue.fault, queue.mode⟩

theorem tame_istatusRead : Tame .signal s (istatusRead s) := by
  have clears : Steady s (istatusClear s) := ⟨rfl, rfl⟩
  unfold istatusRead
  split
  · exact clears.tame
  · exact tame_popAndChain.after clears

/-- The answer to a read changes neither. -/
theorem Tame.answer {t : State} {b : Byte} (h : Tame r s t) : Tame r s (answer b t) :=
  ⟨fun bad => h.fault ((answer_fault b t).symm.trans bad), fun init => h.mode ((answer_mode b t).symm.trans init)⟩

theorem tame_dmaRead : Tame .signal s (dmaRead s) := by
  unfold dmaRead
  split
  · exact Tame.answer ((tame_seqStep .signal (fifoPop s)).after ⟨rfl, rfl⟩)
  · exact ⟨nofun, .inl⟩

theorem tame_dmaWrite (v : Byte) : Tame .signal s (dmaWrite v s) := by
  unfold dmaWrite
  split
  · exact (tame_seqStep .signal _).after ⟨by simp, by simp⟩
  · exact ⟨nofun, .inl⟩

theorem tame_busReset : Tame r s (busReset s) := by
  unfold busReset
  split <;> exact tame_disconnected (by simp) (by simp)

theorem tame_busChange (c : Lines) (b : Byte) : Tame .signal s (busChange c b s) := by
  have driven : Steady s { s with envCtrl := c, envData := b } := ⟨rfl, rfl⟩
  unfold busChange
  simp only
  split_ifs
  · exact driven.tame
  · exact tame_busReset.after driven
  · exact (tame_seqStep .signal _).after driven

/-- An event that answers a next state ran on a live device, and is tame where its effect on any state is. -/
theorem tame_event {f : State → State} {t : State} (h : event f s = .next t) (hf : ∀ u, Tame .signal u (f u)) :
    s.live ∧ Tame .signal s t := by
  obtain ⟨live, rfl⟩ := event_next h
  exact ⟨live, (hf _).after ⟨rfl, rfl⟩⟩

theorem tame_answerDraw : Tame .signal s (answerDraw s) :=
  Tame.answer (t := { s with draws := s.draws + 1 }) ⟨id, .inl⟩

theorem tame_exec {i : Instr} {t : State} (h : exec i s = .next t) : s.live ∧ Tame .signal s t := by
  cases i with
  | nop d | flush d | reset d | resetbus d | cmd04 d
  | xfer d | iccs d | msgacc d | pad d | setatn d | resetatn d
  | sendmsg d | sendstatus d | senddata d | discseq d | termseq d | tccs d | disconnect d
  | recvmsg d | recvcmd d | recvdata d | recvcmdseq d
  | reselect d | select d | selatn d | selatnstop d | ensel d | dissel d | selatn3 d
  | wrCmd v => exact tame_event h fun _ => tame_commandWrite _
  | rdTclo | rdTchi | rdFifo | rdCmd | rdStat | rdSeq | rdFflags | rdConfig =>
    simp only [exec, execRdTclo, execRdTchi, execRdFifo, execRdCmd, execRdStat, execRdSeq, execRdFflags,
      execRdConfig] at h
    exact tame_event h fun _ => Tame.answer (Steady.tame ⟨rfl, rfl⟩)
  | rdConfig2 | rdConfig3 =>
    simp only [exec, execRdConfig2, execRdConfig3] at h
    refine tame_event h fun u => ?_
    split
    · exact Tame.answer (Steady.tame ⟨rfl, rfl⟩)
    · exact tame_answerDraw
  | rdIstat =>
    simp only [exec, execRdIstat] at h
    exact tame_event h fun u => tame_istatusRead.answer
  | wrTclo | wrTchi | wrFifo | wrSelto | wrDest | wrSyncper | wrSyncoff | wrConfig | wrCcf | wrTest =>
    simp only [exec, execWrTclo, execWrTchi, execWrFifo, execWrSelto, execWrDest, execWrSyncper, execWrSyncoff,
      execWrConfig, execWrCcf, execWrTest] at h
    exact tame_event h fun _ => Steady.tame ⟨rfl, rfl⟩
  | wrConfig2 | wrConfig3 | wrFalign =>
    simp only [exec, execWrConfig2, execWrConfig3, execWrFalign] at h
    refine tame_event h fun u => ?_
    split <;> exact Steady.tame ⟨rfl, rfl⟩
  | dmard => exact tame_event h fun _ => tame_dmaRead
  | dmawr v => exact tame_event h fun _ => tame_dmaWrite v

theorem tame_rejectedAccess (e : Reject) : Tame .signal s (rejectedAccess e s) := by
  cases e with
  | notACommand v => exact tame_commandWrite v
  | unmappedRead _ => exact tame_answerDraw
  | unmappedWrite _ _ => exact ⟨id, .inl⟩

/-- An expiry is tame, for its reason where the timer is armed. -/
theorem tame_timerExpiry : ∃ r, Tame r s (timerExpiry s) ∧ (r = .timeout → s.timer.isSome = true) := by
  cases armed : s.timer with
  | none =>
    rw [timerExpiry_disarmed armed]
    exact ⟨.signal, ⟨id, .inl⟩, nofun⟩
  | some n =>
    have run := tame_seqStep .timeout { s with timer := none }
    rw [timerExpiry_armed (Option.isSome_of_eq_some armed)]
    exact ⟨.timeout, ⟨run.fault, run.mode⟩, fun _ => rfl⟩

theorem tame_access {a : Access} {t : State} (h : runEvent (.access a) s = .next t) : s.live ∧ Tame .signal s t := by
  simp only [runEvent] at h
  split at h
  · exact tame_exec h
  · exact tame_event h fun _ => tame_rejectedAccess _

/-- What a step may do: it runs on a live device, raises no BadState, and enters mode Initiator at an expiry of the
armed timer that ends the deskew delay, and at no other event. -/
structure TameStep (s t : State) : Prop where
  live : s.live
  fault : t.fault ≠ some .badState
  mode : t.mode = .initiator → s.mode = .initiator ∨
    (s.sub = some .arbDeskewWait ∧ s.timer.isSome = true ∧ ∃ rest, s.events = .timer :: rest)

/-- An event that is no expiry, on the state with the event taken. -/
theorem tameStep_of_signal {t u : State} (h : u.live ∧ Tame .signal u t) (hu : Steady s u) : TameStep s t :=
  have live : s.live := hu.fault.symm.trans h.1
  have tame := h.2.after hu
  ⟨live, tame.fault_ne live, fun init => .inl ((tame.mode init).resolve_right nofun)⟩

theorem tame_step {t : State} (h : step s = .next t) : TameStep s t := by
  unfold step at h
  split at h
  next =>
    unfold runIdle at h
    split at h <;> cases h
    exact tameStep_of_signal ⟨‹_›, ⟨id, .inl⟩⟩ ⟨rfl, rfl⟩
  next e rest he =>
    cases e with
    | access a => exact tameStep_of_signal (tame_access h) ⟨rfl, rfl⟩
    | bus c b => exact tameStep_of_signal (tame_event h fun _ => tame_busChange c b) ⟨rfl, rfl⟩
    | timer =>
      obtain ⟨live, rfl⟩ := event_next h
      obtain ⟨r, tame, armed⟩ := tame_timerExpiry (s := { s with notices := [], events := rest })
      exact ⟨live, tame.fault_ne live, fun init =>
        (tame.mode init).imp_right fun ⟨hr, hu⟩ => ⟨hu, armed hr, rest, he⟩⟩

end

/-- Settles O55: the chain ends by its rank, every send has a byte or needs none, every valid code has a rule. -/
theorem badStateNeverRaised : Obligations.BadStateNeverRaised := fun _ _ h => (tame_step h).fault

/-- Settles O57: of all an event can run, only the end of the deskew delay enters mode Initiator. -/
theorem initiatorOnlyBySelection : Obligations.InitiatorOnlyBySelection :=
  fun _ _ h ht hs => ((tame_step h).mode ht).resolve_left hs

end Sys2Proof.Machine

/-! The sequencer family (41): arbitration, the selection it wins, and the handshake of one byte each way. -/

namespace Sys2Proof.Machine

/-! ### The winner of arbitration -/

/-- A search down a falling list of IDs finds `n` where `n` is a hit and no ID above it in the list is. -/
theorem find?_falling {p : BusId → Bool} {n : BusId} {ids : List BusId} (falling : ids.Pairwise (· > ·))
    (hn : n ∈ ids) : ids.find? p = some n ↔ p n = true ∧ ∀ m ∈ ids, n < m → p m = false := by
  rw [List.find?_eq_some_iff_append]
  refine and_congr_right fun _ => ⟨?_, fun none => ?_⟩
  · rintro ⟨above, below, rfl, none⟩ m hm hnm
    obtain ⟨-, fromN, -⟩ := List.pairwise_append.mp falling
    obtain hm | rfl | hm : m ∈ above ∨ m = n ∨ m ∈ below := by simpa using hm
    · simpa using none m hm
    · exact absurd hnm (BitVec.lt_irrefl m)
    · exact absurd (List.rel_of_pairwise_cons fromN hm) (BitVec.lt_asymm hnm)
  · obtain ⟨above, below, rfl⟩ := List.append_of_mem hn
    obtain ⟨-, -, overN⟩ := List.pairwise_append.mp falling
    exact ⟨above, below, rfl, fun m hm => by simp [none m (by simp [hm]) (overN m hm n (by simp))]⟩

/-- Settles O28: `highestId` searches all eight IDs, the highest first. -/
theorem winnerIsHighestBit : Obligations.WinnerIsHighestBit := by
  intro data n
  have all : ∀ m : BusId, m ∈ [7#3, 6#3, 5#3, 4#3, 3#3, 2#3, 1#3, 0#3] := by decide
  exact (find?_falling (by decide) (all n)).trans
    (and_congr_right fun _ => ⟨fun none m => none m (all m), fun none m _ => none m⟩)

/-! ### The expiries of arbitration -/

/-- The state an expiry gives the sequencer: its event begun and taken, the timer disarmed (R211). -/
abbrev expired (rest : List Event) (s : State) : State := { s with notices := [], events := rest, timer := none }

section
variable {s t : State} {rest : List Event}

/-- An expiry of the armed timer runs `Step(Timeout)` (R211). -/
theorem step_expiry (hl : s.live) (he : s.events = .timer :: rest) (armed : s.timer.isSome = true) :
    step s = .next (seqStep .timeout (expired rest s)) :=
  (step_timer hl he).trans (congrArg _ (timerExpiry_armed armed))

/-- Outside mode Initiator the expiry is the sub-state's own, where that ends the chain. -/
theorem step_expiry_sub {u : Sub} (hl : s.live) (he : s.events = .timer :: rest) (armed : s.timer.isSome = true)
    (hm : s.mode ≠ .initiator) (hu : s.sub = some u)
    (h : dispatchSub u .timeout (busCtrl s) (busData s) (expired rest s) = halt t) : step s = .next t :=
  have once := stepOnce_sub (r := .timeout) (s := expired rest s) (connected_of_mode hm) hu
  (step_expiry hl he armed).trans (congrArg _ (seqStep_halt (once.trans h)))

/-- The owner of the highest ID asserts SEL (R251). -/
theorem arbComplete_won {data : Byte} (h : highestId data = some s.ownId) :
    arbComplete data s = halt { s with
      sub := some .arbAssertSel, ctrlDrive := s.ctrlDrive ||| lineSel
      timer := some (s.params.delaySel * clockFactor s) } := by
  rw [arbComplete, if_pos h, driveCtrl, drive_assert]
  rfl

/-- Any other contender releases every line and raises ArbitrationLost (R251). -/
theorem arbComplete_lost {data : Byte} (h : highestId data ≠ some s.ownId) :
    arbComplete data s = halt { s with
      ctrlDrive := 0#9, dataDrive := 0x00#8, fault := some .arbitrationLost } := by
  rw [arbComplete, if_neg h, driveCtrl, drive_release_all]
  rfl

theorem withAtn_iff : withAtn s = true ↔
    s.command0.extractLsb' 0 7 = 0x42#7 ∨ s.command0.extractLsb' 0 7 = 0x43#7 := by
  simp only [withAtn, Bool.or_eq_true, currentIs_iff, Cmd.code]

/-- BSY is released, and ATN driven by the command (R253). -/
theorem arbSetDest_eq :
    arbSetDest s = halt { s with
      sub := some .arbReleaseBusy
      ctrlDrive :=
        if s.command0.extractLsb' 0 7 = 0x42#7 ∨ s.command0.extractLsb' 0 7 = 0x43#7 then
          s.ctrlDrive &&& ~~~lineBsy ||| lineAtn
        else s.ctrlDrive &&& ~~~(lineAtn ||| lineBsy)
      timer := some (s.params.delayRel * clockFactor s) } := by
  have drives (c : Lines) : c &&& ~~~(lineAtn ||| lineBsy) ||| lineAtn &&& (lineAtn ||| lineBsy) =
      c &&& ~~~lineBsy ||| lineAtn := by
    revert c; decide +kernel
  simp only [arbSetDest, withAtn_iff]
  split
  · simp only [driveCtrl, drives]
    rfl
  · simp only [driveCtrl, drive_release]
    rfl

end

/-- Settles O29: the four clauses are the expiries that end the first three sub-states of arbitration. -/
theorem arbitrationDecides : Obligations.ArbitrationDecides := by
  intro s rest hl he armed hm
  refine ⟨fun hu won => ?_, fun hu lost => ?_, fun hu => ?_, fun hu => ?_⟩
  · exact step_expiry_sub hl he armed hm hu (arbComplete_won won)
  · exact step_expiry_sub hl he armed hm hu (arbComplete_lost lost)
  · exact step_expiry_sub hl he armed hm hu rfl
  · exact step_expiry_sub hl he armed hm hu arbSetDest_eq

/-! ### The end of a connection -/

/-- The end of a connection, field by field: its cause, everything released (R235). -/
theorem resetDisconnect_eq {c : Byte} (h : c ≠ 0x00#8) (s : State) :
    ∃ n, resetDisconnect (setCause c (goIdle s)) = { s with
      notices := n, coarse := .idle, sub := none
      istatus := s.istatus ||| c, irq := true, cmdCount := 0, mode := .disconnected, dmaDir := .off, drq := false
      ctrlDrive := 0#9, dataDrive := 0x00#8 } := by
  refine ⟨(resetDisconnect (setCause c (goIdle s))).notices, ?_⟩
  rw [setCause_eq h]
  simp only [resetDisconnect, updateDrq, drqLevel, driveData, driveCtrl, drive_release_all, goIdle]

/-- Settles O48: an invocation that finds the connection released ends it, whatever state it finds. -/
theorem disconnectEndsConnection : Obligations.DisconnectEndsConnection := by
  intro s r hm hb
  obtain ⟨n, ended⟩ := resetDisconnect_eq (c := causeDis) (by decide) s
  exact ⟨n, (seqStep_halt (stepOnce_released (fun held => held ⟨hm, hb⟩))).trans ended⟩

/-! ### A selection not answered -/

section
variable {s : State} {ctrl : Lines}

theorem selTimeoutCause_eq :
    selTimeoutCause s = if s.params.selTimeoutCause = .dis then 0x20#8 else 0x08#8 := by
  unfold selTimeoutCause
  split <;> simp_all [causeDis, causeFc]

/-- Still no BSY at the abort: the connection ends with the parameter's cause (R256). -/
theorem arbTimeoutAbort_silent (h : asserted ctrl lineBsy = false) :
    ∃ n, arbTimeoutAbort ctrl s = halt { s with
      notices := n, coarse := .idle, sub := none
      istatus := s.istatus ||| (if s.params.selTimeoutCause = .dis then 0x20#8 else 0x08#8), irq := true
      cmdCount := 0, mode := .disconnected, dmaDir := .off, drq := false
      ctrlDrive := 0#9, dataDrive := 0x00#8 } := by
  have nonzero : selTimeoutCause s ≠ 0x00#8 := by
    rw [selTimeoutCause_eq]
    split <;> decide
  obtain ⟨n, ended⟩ := resetDisconnect_eq nonzero (driveCtrl 0#9 allLines s)
  rw [selTimeoutCause_eq] at ended
  refine ⟨n, ?_⟩
  rw [arbTimeoutAbort, if_neg (by simp [h]), selTimeoutCause_eq, ended]
  rfl

end

/-- Settles O30: the expiries are the sub-states' own; on Signal one of them looks for BSY and the others wait. -/
theorem selectionTimeoutSequence : Obligations.SelectionTimeoutSequence := by
  intro s hm
  refine ⟨fun rest hl he armed => ⟨fun hu hb => ?_, fun hu => ?_, fun hu hb => ?_, fun hu hb => ?_⟩, fun hu => ?_,
    fun u hu hs => ?_⟩
  · exact step_expiry_sub hl he armed hm hu (if_neg (by simp [hb]))
  · exact step_expiry_sub hl he armed hm hu rfl
  · obtain ⟨n, silent⟩ := arbTimeoutAbort_silent (s := expired rest s) hb
    exact ⟨n, step_expiry_sub hl he armed hm hu silent⟩
  · rcases hu with hu | hu <;> exact step_expiry_sub hl he armed hm hu (if_pos hb)
  · exact seqStep_halt_ite (stepOnce_sub (connected_of_mode hm) hu)
  · have once := stepOnce_sub (r := .signal) (connected_of_mode hm) hs
    simp only [List.mem_cons, List.not_mem_nil, or_false] at hu
    rcases hu with rfl | rfl | rfl | rfl | rfl | rfl <;> exact seqStep_halt once

/-! ### Lines released -/

theorem driveCtrl_release (m : Lines) (s : State) :
    driveCtrl 0#9 m s = { s with ctrlDrive := s.ctrlDrive &&& ~~~m } := by
  simp only [driveCtrl, drive_release]

/-- A line that is not among those released reads as before. -/
theorem asserted_release {m l : Lines} (s : State) (h : l &&& m = 0#9) :
    asserted (s.ctrlDrive &&& ~~~m ||| s.envCtrl) l = asserted (busCtrl s) l := by
  rw [← asserted_driveCtrl (v := 0#9) s h, driveCtrl_release]
  rfl

/-! ### A selection answered -/

/-- The target has answered: the data lines and SEL released, mode Initiator (R257). -/
abbrev selected (s : State) : State := { s with
  mode := .initiator, sub := none, dataDrive := 0x00#8, ctrlDrive := s.ctrlDrive &&& ~~~lineSel }

/-- A selection with its length fixed and its path chosen (R372, R373). -/
abbrev selectionBegun (s : State) : State := { s with
  commandLength := s.fifo.length + if s.dmaCommand then s.tcounter.toNat else 0
  coarse := if s.command0.extractLsb' 0 7 = 0x41#7 then .discSelWaitReq else .discSelAtnWaitReq }

section
variable {s : State} {r : Reason}

/-- `DISC_SEL_ARBITRATION_INIT` holds on an empty FIFO (R372). -/
theorem seqStep_selection_held (hc : connected s) (hu : s.sub = none) (hk : s.coarse = .discSelArbitrationInit)
    (hf : s.fifo = []) : seqStep r s = s :=
  seqStep_halt ((stepOnce_at hc hu hk).trans (if_pos hf))

/-- With bytes to send it fixes their number, takes its path, and runs it at once where the target requests
(R372, R373). -/
theorem seqStep_selection_begins {req : Bool} (hr : asserted (busCtrl s) lineReq = req) (hc : connected s)
    (hu : s.sub = none) (hk : s.coarse = .discSelArbitrationInit) (hf : s.fifo ≠ []) :
    seqStep r s = if req then seqStep .signal (selectionBegun s) else selectionBegun s := by
  have counts := (stepOnce_at (r := r) hc hu hk).trans (if_neg hf)
  exact (seqStep_tail counts).trans (seqStep_discSelArbitration hr hc hu rfl)

/-- The end of the deskew delay: the selection's own state runs at once (R257). -/
theorem seqStep_arbDeskewWait (hm : s.mode ≠ .initiator) (hu : s.sub = some .arbDeskewWait) :
    seqStep .timeout s = seqStep .timeout (selected s) := by
  rw [seqStep_tail (stepOnce_sub (connected_of_mode hm) hu), driveCtrl_release]
  rfl

end

/-- Settles O31: the expiry goes on as an invocation in `DISC_SEL_ARBITRATION_INIT` of the answered state. -/
theorem selectionAnswered : Obligations.SelectionAnswered := by
  refine ⟨fun s rest hl he armed hm hu hk hb => ?_, fun s r hk hu hb => ?_⟩
  · have answered := (step_expiry hl he armed).trans (congrArg _ (seqStep_arbDeskewWait (s := expired rest s) hm hu))
    have held : connected (selected (expired rest s)) := connected_of_bsy (asserted_or hb)
    have request : asserted (busCtrl (selected (expired rest s))) lineReq = asserted (busCtrl s) lineReq :=
      asserted_release s rfl
    have begins (hf : s.fifo ≠ []) := seqStep_selection_begins (r := .timeout) request held rfl hk hf
    refine ⟨fun hf => ?_, fun hf hr => ?_, fun hf hr => ?_⟩
    · rw [answered, seqStep_selection_held held rfl hk hf]
    · rw [answered, begins hf, hr]
      rfl
    · rw [answered, begins hf, hr]
      rfl
  · have held := connected_of_bsy hb
    exact ⟨seqStep_selection_held held hu hk, fun hf hr => seqStep_selection_begins hr held hu hk hf,
      fun hf hr => seqStep_selection_begins hr held hu hk hf⟩

/-! ### The send handshake -/

@[simp] theorem busCtrl_decrementTcounter (s : State) : busCtrl (decrementTcounter s) = busCtrl s := by
  simp only [busCtrl, decrementTcounter_ctrlDrive, decrementTcounter_envCtrl]

/-- A byte sent and taken: the data lines and ACK released, the coarse state's handler next (R262). -/
abbrev byteSent (s : State) : State := { s with
  sub := none, dataDrive := 0x00#8, ctrlDrive := s.ctrlDrive &&& ~~~lineAck }

section
variable {s : State} {r : Reason}

/-- A wait for the next REQ holds without one (R395, R419, R422). -/
theorem seqStep_waitsReq (hc : connected s) (hu : s.sub = none)
    (hk : s.coarse ∈ [.initXfrWaitReq, .initXfrSendPadWaitReq, .initXfrRecvPadWaitReq])
    (hr : asserted (busCtrl s) lineReq = false) : seqStep r s = s := by
  have noReq : (!asserted (busCtrl s) lineReq) = true := by simp [hr]
  simp only [List.mem_cons, List.not_mem_nil, or_false] at hk
  rcases hk with hk | hk | hk <;> exact seqStep_halt ((stepOnce_at hc hu hk).trans (if_pos noReq))

/-- A pad byte counted: terminal count completes, and otherwise the next REQ is waited for (R420, R423). -/
theorem seqStep_padCounted {c : Coarse} {t : State}
    (h : stepOnce r s = if t.tc then halt (functionComplete t) else stepAgain .signal (goCoarse c t))
    (hc : c ∈ [.initXfrWaitReq, .initXfrSendPadWaitReq, .initXfrRecvPadWaitReq]) (hu : t.sub = none)
    (hb : asserted (busCtrl t) lineBsy = true) (hr : asserted (busCtrl t) lineReq = false) :
    seqStep r s = if t.tc then functionComplete t else { t with coarse := c } := by
  split at h <;> rename_i htc
  · rw [seqStep_halt h, if_pos htc]
  · rw [seqStep_tail h, if_neg htc]
    exact seqStep_waitsReq (connected_of_bsy hb) hu hc hr

section
variable (hb : asserted (busCtrl s) lineBsy = true)
include hb

/-- The target drops REQ: `Step(Signal)` runs the coarse state's handler on the byte sent (R262). -/
theorem seqStep_sendWaitReq0 (hu : s.sub = some .sendWaitReq0) (hr : asserted (busCtrl s) lineReq = false) :
    seqStep r s = seqStep .signal (byteSent s) := by
  have falls : ¬asserted (busCtrl s) lineReq = true := by simp [hr]
  rw [seqStep_tail ((stepOnce_sub (connected_of_bsy hb) hu).trans (if_neg falls)), driveCtrl_release]
  rfl

/-- What runs on the byte sent sees the same bus but for ACK. -/
theorem stepOnce_byteSent {c : Coarse} (hk : s.coarse = c) :
    stepOnce r (byteSent s) = dispatchCoarse c (busCtrl (byteSent s)) (byteSent s) :=
  stepOnce_at (connected_of_bsy ((asserted_release s rfl).trans hb)) rfl hk

/-- A transfer byte sent: the next REQ is waited for (R396). -/
theorem seqStep_initXfrSendByte (hk : s.coarse = .initXfrSendByte) (hr : asserted (busCtrl s) lineReq = false) :
    seqStep .signal (byteSent s) = { byteSent s with coarse := .initXfrWaitReq } := by
  rw [seqStep_tail (stepOnce_byteSent hb hk)]
  exact seqStep_waitsReq (connected_of_bsy ((asserted_release s rfl).trans hb)) rfl (by simp)
    ((asserted_release s rfl).trans hr)

/-- A pad byte sent: counted, then terminal count or the wait for the next REQ (R420). -/
theorem seqStep_initXfrSendPad (hk : s.coarse = .initXfrSendPad) (hr : asserted (busCtrl s) lineReq = false) :
    let counted := decrementTcounter (byteSent s)
    seqStep .signal (byteSent s) =
      if counted.tc then functionComplete counted else { counted with coarse := .initXfrSendPadWaitReq } := by
  have bus (l : Lines) (hl : l &&& lineAck = 0#9) :
      asserted (busCtrl (decrementTcounter (byteSent s))) l = asserted (busCtrl s) l := by
    rw [busCtrl_decrementTcounter]
    exact asserted_release s hl
  exact seqStep_padCounted (stepOnce_byteSent hb hk) (by simp) (decrementTcounter_sub _) ((bus _ rfl).trans hb)
    ((bus _ rfl).trans hr)

end
end

/-- Settles O41: the waits by the invocation itself, the handlers on the byte sent. -/
theorem sendHandshake : Obligations.SendHandshake := by
  intro s hb
  have held := connected_of_bsy hb
  refine ⟨fun hu => ⟨?_, ?_⟩, fun hu hr r => ?_, fun hu hr r => ?_⟩
  · exact seqStep_halt (stepOnce_sub held hu)
  · exact seqStep_tail (stepOnce_sub held hu)
  · exact seqStep_halt ((stepOnce_sub held hu).trans (if_pos hr))
  · have run := seqStep_sendWaitReq0 (r := r) hb hu hr
    refine ⟨run, fun hk => ?_, fun hk => ?_, fun hk => ?_, fun hk => ?_⟩
    · exact run.trans (seqStep_halt (stepOnce_byteSent hb hk))
    · have counts := stepOnce_byteSent (r := .signal) hb hk
      simp only [dispatchCoarse, discSelAtnSendByte, currentIs_iff] at counts
      exact run.trans (seqStep_halt_ite counts)
    · exact run.trans (seqStep_initXfrSendByte hb hk hr)
    · exact run.trans (seqStep_initXfrSendPad hb hk hr)

/-! ### The receive handshake -/

section
variable {s : State} {r : Reason}

theorem decrementTcounter_endSub (s : State) :
    decrementTcounter { s with sub := none } = { decrementTcounter s with sub := none } := by
  unfold decrementTcounter
  split <;> rfl

/-- The byte received is counted (R397, R398, R423). -/
abbrev byteCounted (s : State) : State := { decrementTcounter s with sub := none }

/-- Counting leaves the bus. -/
theorem asserted_byteCounted (l : Lines) : asserted (busCtrl (byteCounted s)) l = asserted (busCtrl s) l :=
  congrArg (asserted · l) (busCtrl_decrementTcounter s)

theorem drainPending_iff : drainPending s = true ↔ s.dmaCommand = true ∧ s.dmaDir = .inward ∧ s.fifo ≠ [] := by
  simp [drainPending, and_assoc]

/-- `INIT_XFR_FUNCTION_COMPLETE` holds while DMA-in bytes are not drained and completes otherwise (R399). -/
theorem seqStep_initXfrFunctionComplete (hc : connected s) (hu : s.sub = none)
    (hk : s.coarse = .initXfrFunctionComplete) : seqStep r s =
      if s.dmaCommand = true ∧ s.dmaDir = .inward ∧ s.fifo ≠ [] then s else functionComplete s := by
  have ends := stepOnce_at (r := r) hc hu hk
  simp only [dispatchCoarse, initXfrFunctionComplete, drainPending_iff] at ends
  exact seqStep_halt_ite ends

/-- The data lines are latched, except in Transfer Pad, and ACK asserted (R265). -/
theorem seqStep_recvWaitSettle (hc : connected s) (hu : s.sub = some .recvWaitSettle) :
    seqStep .timeout s = seqStep .signal { (if s.coarse = .initXfrRecvPad then s else fifoPush (busData s) s) with
      sub := some .recvWaitReq0, ctrlDrive := s.ctrlDrive ||| lineAck } := by
  rw [seqStep_tail (stepOnce_sub hc hu), driveCtrl]
  split <;> simp only [goSub, drive_assert, fifoPush_ctrlDrive]

section
variable (hb : asserted (busCtrl s) lineBsy = true)
include hb

/-- The target drops REQ: `Step(Signal)` runs the coarse state's handler with ACK still asserted (R266). -/
theorem seqStep_recvWaitReq0 (hu : s.sub = some .recvWaitReq0) (hr : asserted (busCtrl s) lineReq = false) :
    seqStep r s = seqStep .signal { s with sub := none } :=
  have falls : ¬asserted (busCtrl s) lineReq = true := by simp [hr]
  seqStep_tail ((stepOnce_sub (connected_of_bsy hb) hu).trans (if_neg falls))

/-- The handler runs with the same bus. -/
theorem stepOnce_byteReceived {c : Coarse} (hk : s.coarse = c) :
    stepOnce r { s with sub := none } = dispatchCoarse c (busCtrl s) { s with sub := none } :=
  stepOnce_at (s := { s with sub := none }) (connected_of_bsy hb) rfl hk

/-- A transfer byte received: counted, and ACK released (R397). -/
theorem seqStep_initXfrRecvByteAck (hk : s.coarse = .initXfrRecvByteAck) :
    seqStep .signal { s with sub := none } = { byteCounted s with
      coarse := .initXfrWaitReq, ctrlDrive := s.ctrlDrive &&& ~~~lineAck } := by
  rw [seqStep_halt (stepOnce_byteReceived hb hk), decrementTcounter_endSub, driveCtrl_release]
  simp only [goCoarse, decrementTcounter_ctrlDrive]

/-- The last byte of a Message-In: counted, and complete once the DMA-in bytes are drained (R398, R399). -/
theorem seqStep_initXfrRecvByteNack (hk : s.coarse = .initXfrRecvByteNack) :
    seqStep .signal { s with sub := none } =
      if s.dmaCommand = true ∧ s.dmaDir = .inward ∧ s.fifo ≠ [] then
        { byteCounted s with coarse := .initXfrFunctionComplete }
      else functionComplete (byteCounted s) := by
  have counted : connected { byteCounted s with coarse := .initXfrFunctionComplete } :=
    connected_of_bsy ((asserted_byteCounted _).trans hb)
  rw [seqStep_tail (stepOnce_byteReceived hb hk), decrementTcounter_endSub]
  exact (seqStep_initXfrFunctionComplete counted rfl rfl).trans (by simp [functionComplete, complete, goIdle])

/-- A pad byte received: counted and ACK released, then terminal count or the wait for the next REQ (R423). -/
theorem seqStep_initXfrRecvPad (hk : s.coarse = .initXfrRecvPad) (hr : asserted (busCtrl s) lineReq = false) :
    let released : State := { byteCounted s with ctrlDrive := s.ctrlDrive &&& ~~~lineAck }
    seqStep .signal { s with sub := none } =
      if (byteCounted s).tc then functionComplete released
      else { released with coarse := .initXfrRecvPadWaitReq } := by
  intro released
  have counts := stepOnce_byteReceived (r := .signal) hb hk
  have eq : driveCtrl 0#9 lineAck (decrementTcounter { s with sub := none }) = released := by
    rw [decrementTcounter_endSub, driveCtrl_release]
    simp only [decrementTcounter_ctrlDrive, released]
  simp only [dispatchCoarse, initXfrRecvPad, eq] at counts
  have bus (l : Lines) (hl : l &&& lineAck = 0#9) : asserted (busCtrl released) l = asserted (busCtrl s) l := by
    simp only [busCtrl, released, decrementTcounter_envCtrl]
    exact asserted_release s hl
  exact seqStep_padCounted counts (by simp) rfl ((bus _ rfl).trans hb) ((bus _ rfl).trans hr)

end
end

/-- Settles O42: the waits by the invocation itself, the handlers on the byte received. -/
theorem receiveHandshake : Obligations.ReceiveHandshake := by
  intro s hb
  have held := connected_of_bsy hb
  refine ⟨fun hu r => ?_, fun hu => ⟨?_, fun hk => ?_, fun hk => ?_⟩, fun hu hr r => ?_, fun hu hr r => ?_⟩
  · exact seqStep_halt_ite (stepOnce_sub held hu)
  · exact seqStep_halt (stepOnce_sub held hu)
  · rw [seqStep_recvWaitSettle held hu, if_neg hk]
    rfl
  · rw [seqStep_recvWaitSettle held hu, if_pos hk]
  · exact seqStep_halt ((stepOnce_sub held hu).trans (if_pos hr))
  · have run := seqStep_recvWaitReq0 (r := r) hb hu hr
    exact ⟨run, fun hk => run.trans (seqStep_initXfrRecvByteAck hb hk),
      fun hk => run.trans (seqStep_initXfrRecvByteNack hb hk), fun hk => run.trans (seqStep_initXfrRecvPad hb hk hr)⟩

end Sys2Proof.Machine

/-! The dispatcher family (42): what a byte written finds in the queue, the commands that pop themselves, the two
completing nodes; then one inversion of the step, and from it when a queued command waits and when the queue stays
linked to the sequencer. -/

namespace Sys2Proof.Machine

/-! ### A byte behind pending commands -/

section
variable {s : State} {v : Byte}

/-- The reset bytes, by mask (R301). -/
theorem isResetByte_iff : isResetByte v = true ↔ v &&& 0x7f#8 = 0x02#8 ∨ v &&& 0x7f#8 = 0x03#8 := by
  rw [isResetByte, Bool.or_eq_true, beq_iff_eq, beq_iff_eq]
  exact or_congr (masked_eq_iff v _).symm (masked_eq_iff v _).symm

theorem isResetByte_eq_false (h2 : v &&& 0x7f#8 ≠ 0x02#8) (h3 : v &&& 0x7f#8 ≠ 0x03#8) : isResetByte v = false :=
  Bool.eq_false_iff.mpr fun h => (isResetByte_iff.mp h).elim h2 h3

/-- No other byte touches the queue before it is written. -/
theorem commandQueue_kept (h : isResetByte v = false) : commandQueue v s = s :=
  if_neg (by simp [h])

/-- On a full queue a byte sets GE (R302). -/
theorem commandWrite_full (h : isResetByte v = false) (hq : s.cmdCount = 2) :
    commandWrite v s = { s with ge := true } := by
  simp [commandWrite, commandQueue_kept h, hq]

/-- Behind one command a byte is queued (R300). -/
theorem commandWrite_behind (h : isResetByte v = false) (hq : s.cmdCount = 1) :
    commandWrite v s = { s with command1 := v, cmdCount := 2 } := by
  simp [commandWrite, commandQueue_kept h, hq]

end

/-- Settles O18: the byte is no reset byte, so it finds the queue full. -/
theorem thirdCommandIsGrossError : Obligations.ThirdCommandIsGrossError := by
  intro s v live full h2 h3
  exact (event_live live).trans (congrArg _ (commandWrite_full (isResetByte_eq_false h2 h3) full))

/-- Settles O19: the byte is no reset byte, so it finds one command pending. -/
theorem secondCommandIsQueued : Obligations.SecondCommandIsQueued := by
  intro s v live one h2 h3
  exact (event_live live).trans (congrArg _ (commandWrite_behind (isResetByte_eq_false h2 h3) one))

/-! ### Commands that pop themselves, and the completing nodes -/

theorem driveCtrl_assert (m : Lines) (s : State) : driveCtrl m m s = { s with ctrlDrive := s.ctrlDrive ||| m } := by
  simp only [driveCtrl, drive_assert]

/-- A command whose rule is an operation of its own and the pop of itself, started in the empty queue (R321 b). -/
theorem exec_popsItself {s t : State} (k : Cmd) (d : Bool) (live : s.live) (empty : s.queueEmpty)
    (valid : commandValid s.params.variant s.mode k.code = true)
    (rule : commandRule k (accepted k d s) = popsItself t) :
    exec (k.instr d) s = .next { t with cmdCount := 0 } := by
  rw [exec_valid k d live empty valid, rule]
  rfl

/-- Settles O23: each is valid in its mode, and its rule is one operation on the accepted command. -/
theorem immediateCommands : Obligations.ImmediateCommands := by
  intro s d live empty
  refine ⟨?_, ?_, fun hm => ⟨?_, ?_⟩, fun hm => ⟨?_, ?_⟩⟩
  · exact exec_popsItself .nop d live empty (valid_group0 (by decide)) rfl
  · exact exec_popsItself .flush d live empty (valid_group0 (by decide)) rfl
  · exact exec_popsItself .ensel d live empty (hm ▸ valid_disconnected (by decide)) rfl
  · exact exec_popsItself .dissel d live empty (hm ▸ valid_disconnected (by decide)) rfl
  · exact exec_popsItself .setatn d live empty (hm ▸ valid_initiator (by decide))
      (congrArg popsItself (driveCtrl_assert lineAtn _))
  · exact exec_popsItself .resetatn d live empty (hm ▸ valid_initiator (by decide))
      (congrArg popsItself (driveCtrl_release lineAtn _))

/-- Settles O47: the two are `complete` with their causes, which are not zero. -/
theorem terminalNodes : Obligations.TerminalNodes :=
  fun _ => ⟨⟨_, complete_eq (c := causeFc) (by decide)⟩, ⟨_, complete_eq (c := causeBs) (by decide)⟩⟩

/-! ### What a step does to the queue and the sequencer -/

/-- The queue, the sequencer's place, and what a disconnect reads and the causes it adds to, are left as they were. -/
structure Undisturbed (s t : State) : Prop where
  params : t.params = s.params
  command0 : t.command0 = s.command0
  command1 : t.command1 = s.command1
  cmdCount : t.cmdCount = s.cmdCount
  istatus : t.istatus = s.istatus
  mode : t.mode = s.mode
  coarse : t.coarse = s.coarse
  sub : t.sub = s.sub

theorem Undisturbed.trans {s t u : State} (h : Undisturbed s t) (h' : Undisturbed t u) : Undisturbed s u where
  params := h'.params.trans h.params
  command0 := h'.command0.trans h.command0
  command1 := h'.command1.trans h.command1
  cmdCount := h'.cmdCount.trans h.cmdCount
  istatus := h'.istatus.trans h.istatus
  mode := h'.mode.trans h.mode
  coarse := h'.coarse.trans h.coarse
  sub := h'.sub.trans h.sub

/-- What a step may do, as far as the queue and the sequencer go: leave both; write a command byte; read the interrupt
status; run the sequencer, up to the byte a read answers; or see RST on the bus and reset. -/
inductive StepEffect (s t : State) : Prop
  | leaves (left : Undisturbed s t)
  | writesCommand (u : State) (left : Undisturbed s u) (v : Byte) (run : t = commandWrite v u) (rest : List Event)
      (event : s.events = .access (.cmd v) :: rest ∨ s.events = .access (.regWrite 0x3#4 v) :: rest)
  | readsCauses (u : State) (left : Undisturbed s u) (b : Byte) (run : t = answer b (istatusRead u)) (rest : List Event)
      (event : s.events = .access (.regRead 0x5#4) :: rest)
  | runsSequencer (u : State) (left : Undisturbed s u) (r : Reason) (b : Byte)
      (run : t = { seqStep r u with readData := b })
  | seesReset (u : State) (left : Undisturbed s u) (run : t = busReset u) (c : Lines) (b : Byte) (rest : List Event)
      (event : s.events = .bus c b :: rest) (rst : asserted (s.ctrlDrive ||| c) lineRst = true)

section
variable {s t : State}

theorem undisturbed_answer (b : Byte) (s : State) : Undisturbed s (answer b s) := by
  constructor <;> simp

theorem Undisturbed.answer {b : Byte} (h : Undisturbed s t) : Undisturbed s (answer b t) :=
  h.trans (undisturbed_answer b t)

/-- An event leaves queue and sequencer where its effect on any state does. -/
theorem undisturbed_event {f : State → State} (h : event f s = .next t) (hf : ∀ u, Undisturbed u (f u)) :
    Undisturbed s t := by
  obtain ⟨-, rfl⟩ := event_next h
  have begun : Undisturbed s { s with notices := [] } := by constructor <;> rfl
  exact begun.trans (hf _)

/-- A register read but that of the interrupt status leaves both (R470 to R493). -/
theorem undisturbed_read {off : Offset} {i : Instr} (hd : decodeRead off = .ok i) (ho : off ≠ 0x5#4)
    (h : exec i s = .next t) : Undisturbed s t := by
  unfold decodeRead at hd
  split at hd <;> cases hd <;>
    simp only [exec, execRdTclo, execRdTchi, execRdFifo, execRdCmd, execRdStat, execRdSeq, execRdFflags, execRdConfig,
      execRdConfig2, execRdConfig3] at h
  case h_6 is5 => exact absurd (BitVec.eq_of_toNat_eq is5) ho
  case h_10 | h_11 =>
    refine undisturbed_event h fun u => ?_
    split
    · exact undisturbed_answer _ _
    · exact Undisturbed.answer (by constructor <;> rfl)
  all_goals exact undisturbed_event h fun u => Undisturbed.answer (by constructor <;> rfl)

/-- A register write but that of a command leaves both (R471 to R494). -/
theorem undisturbed_write {off : Offset} {v : Byte} {i : Instr} (hd : decodeWrite off v = .ok i) (ho : off ≠ 0x3#4)
    (h : exec i s = .next t) : Undisturbed s t := by
  unfold decodeWrite at hd
  split at hd <;> cases hd <;>
    simp only [exec, execWrTclo, execWrTchi, execWrFifo, execWrDest, execWrSelto, execWrSyncper, execWrSyncoff,
      execWrConfig, execWrCcf, execWrTest, execWrConfig2, execWrConfig3, execWrFalign] at h
  case h_4 is3 => exact absurd (BitVec.eq_of_toNat_eq is3) ho
  case h_12 | h_13 | h_14 =>
    refine undisturbed_event h fun u => ?_
    split <;> constructor <;> rfl
  all_goals exact undisturbed_event h fun u => (by constructor <;> rfl)

theorem reject_of_decodeRead {off : Offset} {e : Reject} (h : decodeRead off = .error e) : e = .unmappedRead off := by
  unfold decodeRead at h
  split at h <;> cases h
  rfl

theorem reject_of_decodeWrite {off : Offset} {v : Byte} {e : Reject} (h : decodeWrite off v = .error e) :
    e = .unmappedWrite off v := by
  unfold decodeWrite at h
  split at h <;> cases h
  rfl

/-- The state an event acts on: taken from the list, with nothing put out yet (assumptions 3 and 9). -/
abbrev begun (rest : List Event) (s : State) : State := { s with notices := [], events := rest }

theorem undisturbed_begun (rest : List Event) (s : State) : Undisturbed s (begun rest s) := by
  constructor <;> rfl

/-- An answer is at most a change of the byte read (assumption 8). -/
theorem answer_eq (b : Byte) (s : State) : answer b s = { s with readData := (answer b s).readData } := by
  unfold answer
  split <;> rfl

theorem effect_dmaRead {u : State} (left : Undisturbed s u) : StepEffect s (dmaRead u) := by
  unfold dmaRead
  split
  · exact .runsSequencer (fifoPop u) (left.trans (by constructor <;> rfl)) .signal _ (answer_eq _ _)
  · exact .leaves (left.trans (by constructor <;> rfl))

theorem effect_dmaWrite {u : State} (left : Undisturbed s u) (v : Byte) : StepEffect s (dmaWrite v u) := by
  unfold dmaWrite
  split
  · exact .runsSequencer _ (left.trans (by constructor <;> simp)) .signal _ rfl
  · exact .leaves (left.trans (by constructor <;> rfl))

theorem effect_access {a : Access} {rest : List Event} (he : s.events = .access a :: rest)
    (h : runEvent (.access a) { s with events := rest } = .next t) : StepEffect s t := by
  have left := undisturbed_begun rest s
  have taken : Undisturbed s { s with events := rest } := by constructor <;> rfl
  cases a with
  | cmd v =>
    obtain ⟨-, rfl⟩ := event_next ((step_cmd v s rest).symm.trans h)
    exact .writesCommand _ left v rfl rest (.inl he)
  | regRead off =>
    by_cases is5 : off = 0x5#4
    · subst is5
      obtain ⟨-, rfl⟩ := event_next (f := fun u => answer u.istatus (istatusRead u)) h
      exact .readsCauses _ left _ rfl rest he
    · simp only [runEvent, decode] at h
      split at h
      next hd => exact .leaves (taken.trans (undisturbed_read hd is5 h))
      next hd =>
        rw [reject_of_decodeRead hd] at h
        exact .leaves (taken.trans (undisturbed_event h fun u => Undisturbed.answer (by constructor <;> rfl)))
  | regWrite off v =>
    by_cases is3 : off = 0x3#4
    · subst is3
      obtain ⟨-, rfl⟩ := event_next (f := commandWrite v) h
      exact .writesCommand _ left v rfl rest (.inr he)
    · simp only [runEvent, decode] at h
      split at h
      next hd => exact .leaves (taken.trans (undisturbed_write hd is3 h))
      next hd =>
        rw [reject_of_decodeWrite hd] at h
        exact .leaves (taken.trans (undisturbed_event h fun u => (by constructor <;> rfl)))
  | dmaRead =>
    obtain ⟨-, rfl⟩ := event_next (f := dmaRead) h
    exact effect_dmaRead left
  | dmaWrite v =>
    obtain ⟨-, rfl⟩ := event_next (f := dmaWrite v) h
    exact effect_dmaWrite left v

theorem effect_busChange {c : Lines} {b : Byte} {rest : List Event} (he : s.events = .bus c b :: rest) :
    StepEffect s (busChange c b (begun rest s)) := by
  have left : Undisturbed s { begun rest s with envCtrl := c, envData := b } := by constructor <;> rfl
  unfold busChange
  simp only
  split_ifs with same rst
  · exact .leaves left
  · exact .seesReset _ left rfl c b rest he rst
  · exact .runsSequencer _ left .signal _ rfl

theorem effect_timerExpiry (rest : List Event) : StepEffect s (timerExpiry (begun rest s)) := by
  unfold timerExpiry
  split
  · exact .runsSequencer (expired rest s) (by constructor <;> rfl) .timeout _ rfl
  · exact .leaves (undisturbed_begun rest s)

/-- The inversion of the step: what it may do to the queue and the sequencer. -/
theorem step_effect (h : step s = .next t) : StepEffect s t := by
  unfold step at h
  split at h
  next =>
    unfold runIdle at h
    split at h <;> cases h
    exact .leaves (by constructor <;> rfl)
  next e rest he =>
    cases e with
    | access a => exact effect_access he h
    | bus c b =>
      obtain ⟨-, rfl⟩ := event_next h
      exact effect_busChange he
    | timer =>
      obtain ⟨-, rfl⟩ := event_next h
      exact effect_timerExpiry rest

end

/-! ### When a queued command waits -/

section
variable {s t u : State}

/-- The queue a reset byte leaves, and the sequencer: nothing pending, idle (R344, R346, R572). -/
structure ResetDone (s t : State) : Prop where
  cmdCount : t.cmdCount = 0
  command1 : t.command1 = s.command1
  coarse : t.coarse = .idle
  sub : t.sub = none

/-- A reset byte in slot 0 resets when it starts, in every mode (R301, R308). -/
theorem startOnly_reset (h : isResetByte s.command0 = true) : ResetDone s (startOnly s) := by
  have valid {k : Cmd} (hk : k ∈ [Cmd.nop, .flush, .reset, .resetbus]) (hc : cmdCode s.command0 = k.code) :
      startOnly s = settled (commandRule k (dmaReload s)) :=
    startOnly_valid (hc ▸ decodeCmd_code k) (valid_group0 hk)
  rw [isResetByte, Bool.or_eq_true, beq_iff_eq, beq_iff_eq] at h
  rcases h with h | h
  · rw [valid (by decide) h]
    constructor <;> simp [commandRule, startReset]
  · rw [valid (by decide) h]
    simp only [commandRule, startResetbus, settled_runs]
    split <;> constructor <;> simp

theorem busReset_done (s : State) : ResetDone s (busReset s) ∧ (busReset s).command0 = s.command0 := by
  unfold busReset
  split <;> exact ⟨by constructor <;> simp, by simp⟩

/-! Neither slot is the sequencer's to write, nor the other devices' drive. -/

theorem command0_seqStep (r : Reason) (s : State) : (seqStep r s).command0 = s.command0 :=
  (congrArg State.command0 (untouched_seqStep r s) :)

theorem command1_seqStep (r : Reason) (s : State) : (seqStep r s).command1 = s.command1 :=
  (congrArg State.command1 (untouched_seqStep r s) :)

theorem envCtrl_seqStep (r : Reason) (s : State) : (seqStep r s).envCtrl = s.envCtrl :=
  (congrArg State.envCtrl (untouched_seqStep r s) :)

/-- An end of the connection seen from a state with the same place and causes (R234, R235, R256). -/
theorem Ended.cause_of_undisturbed (e : Ended u t) (left : Undisturbed s u) :
    ((s.mode = .initiator ∨ s.sub = some .arbDeskewWait) ∧ t.istatus = s.istatus ||| 0x20#8) ∨
      (s.sub = some .arbTimeoutAbort ∧ t.istatus = s.istatus |||
        if s.params.selTimeoutCause = .dis then 0x20#8 else 0x08#8) := by
  have cause := e.cause
  rw [selTimeoutCause_eq, left.mode, left.sub, left.istatus, left.params] at cause
  exact cause

end

/-- Settles O22: by what the step does. Only a read of the causes starts the queued command; a byte written finds the
queue full or resets it; the sequencer keeps the queue or has ended the connection. -/
theorem queuedCommandWaits : Obligations.QueuedCommandWaits := by
  intro s t full h notRead
  cases step_effect h with
  | leaves left => exact ⟨left.command1, .inl ⟨left.cmdCount.trans full, left.command0⟩⟩
  | writesCommand u left v run rest event =>
    subst run
    cases hv : isResetByte v with
    | true =>
      rw [commandWrite_reset hv]
      have done := startOnly_reset (s := { u with command0 := v, cmdCount := 1 }) hv
      exact ⟨done.command1.trans left.command1, .inr (.inl ⟨done.cmdCount, v, rest, isResetByte_iff.mp hv, event⟩)⟩
    | false =>
      have keeps := left.cmdCount.trans full
      rw [commandWrite_full hv keeps]
      exact ⟨left.command1, .inl ⟨keeps, left.command0⟩⟩
  | readsCauses u left b run rest event => exact absurd event (notRead rest)
  | runsSequencer u left r b run =>
    subst run
    have kept0 := (command0_seqStep r u).trans left.command0
    refine ⟨(command1_seqStep r u).trans left.command1, ?_⟩
    rcases queue_seqStep r u with keeps | ended
    · exact .inl ⟨keeps.trans (left.cmdCount.trans full), kept0⟩
    · have free : asserted (seqStep r u).envCtrl lineBsy = false := (envCtrl_seqStep r u).symm ▸ ended.free
      exact .inr (.inr (.inr ⟨ended.cmdCount, kept0, free, ended.mode, ended.coarse, ended.sub, ended.dmaDir,
        ended.ctrlDrive, ended.dataDrive, ended.cause_of_undisturbed left⟩))
  | seesReset u left run c b rest event rst =>
    subst run
    obtain ⟨done, kept0⟩ := busReset_done u
    exact ⟨done.command1.trans left.command1,
      .inr (.inr (.inl ⟨done.cmdCount, kept0.trans left.command0, c, b, rest, event, rst⟩))⟩

/-! ### The link of queue and sequencer -/

/-- R309's link: with nothing queued the sequencer is idle. -/
def Linked (s : State) : Prop := s.cmdCount = 0 → s.coarse = .idle ∧ s.sub = none

section
variable {s t : State}

theorem Linked.of_pending (h : s.cmdCount ≠ 0) : Linked s := fun empty => absurd empty h

theorem Undisturbed.linked (h : Undisturbed s t) (link : Linked s) : Linked t := by
  rw [Linked, h.cmdCount, h.coarse, h.sub]
  exact link

theorem ResetDone.linked (h : ResetDone s t) : Linked t := fun _ => ⟨h.coarse, h.sub⟩

/-- The sequencer run over a linked queue keeps it, at IDLE and at the end of a connection too. -/
theorem linked_seqStep (r : Reason) (link : Linked s) : Linked (seqStep r s) := by
  intro empty
  rcases queue_seqStep r s with keeps | ended
  · obtain ⟨hk, hu⟩ := link (keeps.symm.trans empty)
    by_cases hc : connected s
    · rw [seqStep_idle hc hk hu]
      exact ⟨hk, hu⟩
    · rw [seqStep_halt (stepOnce_released hc)]
      simp
  · exact ⟨ended.coarse, ended.sub⟩

/-- A command started from IDLE stays queued, resets, ends its connection, or pops itself at IDLE (R308, R321). -/
theorem linked_commandRule (k : Cmd) (one : s.cmdCount = 1) (idle : s.coarse = .idle ∧ s.sub = none) :
    Linked (settled (commandRule k s)) := by
  have pending : s.cmdCount ≠ 0 := by simp [one]
  cases k with
  | nop | flush | setatn | resetatn | ensel | dissel => exact fun _ => idle
  | reset => exact fun _ => ⟨hardReset_coarse s, hardReset_sub s⟩
  | resetbus =>
    simp only [commandRule, startResetbus, settled_runs]
    split <;> exact fun _ => ⟨softReset_coarse s, softReset_sub s⟩
  | select | selatn | selatnstop => exact Linked.of_pending ((beginSelection_cmdCount s).symm ▸ pending)
  | xfer | iccs | msgacc | pad => exact linked_seqStep .signal (Linked.of_pending pending)
  | cmd04 | sendmsg | sendstatus | senddata | discseq | termseq | tccs | disconnect | recvmsg | recvcmd | recvdata
  | recvcmdseq | reselect | selatn3 => exact Linked.of_pending pending

theorem linked_startOnly (one : s.cmdCount = 1) (idle : s.coarse = .idle ∧ s.sub = none) : Linked (startOnly s) := by
  cases hv : commandValid s.params.variant s.mode (cmdCode s.command0) with
  | true =>
    obtain ⟨k, hk, -⟩ := (validCodesHaveACommand _ _ _).2 hv
    rw [startOnly_valid hk (code_of_decodeCmd hk ▸ hv)]
    exact linked_commandRule k (by simp [one]) (by simp [idle])
  | false =>
    rw [startOnly_invalid hv]
    exact Linked.of_pending (by simp [one])

theorem linked_commandWrite (v : Byte) (link : Linked s) : Linked (commandWrite v s) := by
  cases hv : isResetByte v with
  | true =>
    rw [commandWrite_reset hv]
    exact (startOnly_reset hv).linked
  | false =>
    have counts : ∀ n : Fin 3, n = 0 ∨ n = 1 ∨ n = 2 := by decide
    rcases counts s.cmdCount with empty | one | full
    · rw [commandWrite_empty empty]
      exact linked_startOnly rfl (link empty)
    · rw [commandWrite_behind hv one]
      exact Linked.of_pending (by simp)
    · rw [commandWrite_full hv full]
      exact link

/-- A read of the causes keeps the link where it finds no cause, or finds the sequencer idle (R480, R320). -/
theorem linked_istatusRead (link : Linked s) (h : s.istatus = 0x00#8 ∨ (s.coarse = .idle ∧ s.sub = none)) :
    Linked (istatusRead s) := by
  unfold istatusRead
  split_ifs with quiet
  · exact link
  · have idle := h.resolve_left quiet
    unfold popAndChain
    split
    · exact linked_startOnly rfl idle
    · exact fun _ => idle

end

/-- Every step keeps the link, but for a read that finds a cause outside IDLE (assumption 15). -/
theorem linked_step {s t : State} (link : Linked s) (h : step s = .next t)
    (hr : (∀ rest, s.events ≠ .access (.regRead 0x5#4) :: rest) ∨ s.istatus = 0x00#8 ∨
      (s.coarse = .idle ∧ s.sub = none)) : Linked t := by
  cases step_effect h with
  | leaves left => exact left.linked link
  | writesCommand u left v run =>
    rw [run]
    exact linked_commandWrite v (left.linked link)
  | readsCauses u left b run rest event =>
    have quiet := hr.resolve_left fun notRead => notRead rest event
    rw [← left.istatus, ← left.coarse, ← left.sub] at quiet
    rw [run]
    exact (undisturbed_answer b _).linked (linked_istatusRead (left.linked link) quiet)
  | runsSequencer u left r b run =>
    rw [run]
    exact linked_seqStep r (left.linked link)
  | seesReset u left run =>
    rw [run]
    exact (busReset_done u).1.linked

/-- Settles O60: the link is kept by every other step; the run from power-on is evaluated. -/
theorem popWhileRunningBreaksR309 : Obligations.PopWhileRunningBreaksR309 :=
  ⟨fun _ _ link h hr => linked_step link h hr, ⟨_, rfl, rfl, rfl, rfl⟩⟩

end Sys2Proof.Machine

/-! The miscellaneous commands (43): the two that reset, whatever is queued or in flight, and those the block does not
implement. -/

namespace Sys2Proof.Machine

/-! ### The resets, field by field -/

/-- `SoftReset()` (R572), with what it puts out left as it is. -/
theorem softReset_eq (s : State) : softReset s = { s with
    notices := (softReset s).notices
    cmdCount := 0, dmaCommand := false, testMode := false, mode := .disconnected, coarse := .idle, sub := none
    dmaDir := .off, commandLength := 0, irq := s.istatus != 0x00#8, drq := false
    timer := none, ctrlDrive := 0#9, dataDrive := 0x00#8 } := by
  simp only [softReset, updateIrq, updateDrq, driveData, driveCtrl, drqLevel, irqLevel, drive_release_all]

/-- `HardReset()` (R570): the values given, the values drawn, then the soft reset. -/
theorem hardReset_eq (s : State) : hardReset s = { s with
    notices := (hardReset s).notices
    cmdCount := 0, dmaCommand := false, fifo := []
    config := 0x00#8, ownId := 0#3, testMode := false, config2 := 0x00#8, config3 := 0x00#8
    fifoAlign := Config.draw 8 s.draws, testReg := Config.draw 8 (s.draws + 1)
    destId := Config.draw 3 (s.draws + 2), selectTimeout := Config.draw 8 (s.draws + 3)
    tcount := Config.draw 16 (s.draws + 4), tcounter := Config.draw 16 (s.draws + 5)
    xfrPhase := Config.draw 3 (s.draws + 6), draws := s.draws + 7
    clockConv := 2#3, syncPeriod := 5#5, syncOffset := 0#4
    ge := false, pe := false, tc := false, istatus := 0x00#8, seq := 0#3
    mode := .disconnected, coarse := .idle, sub := none
    dmaDir := .off, commandLength := 0, irq := false, drq := false
    timer := none, ctrlDrive := 0#9, dataDrive := 0x00#8 } :=
  softReset_eq _

/-! ### The RST pulse is no part of a soft reset -/

section
variable {l : Bool} {s : State}

theorem rst_mem_updateIrq : Notice.rst l ∈ (updateIrq s).notices ↔ Notice.rst l ∈ s.notices := by
  unfold updateIrq
  split <;> simp

theorem rst_mem_updateDrq : Notice.rst l ∈ (updateDrq s).notices ↔ Notice.rst l ∈ s.notices := by
  unfold updateDrq
  split <;> simp

theorem rst_mem_softReset : Notice.rst l ∈ (softReset s).notices ↔ Notice.rst l ∈ s.notices :=
  rst_mem_updateIrq.trans rst_mem_updateDrq

end

/-- A command just accepted has put out no RST: its event has begun with nothing put out. -/
theorem rst_notMem_accepted (l : Bool) (k : Cmd) (d : Bool) (s : State) : Notice.rst l ∉ (accepted k d s).notices :=
  fun h => List.not_mem_nil (rst_mem_updateDrq.mp h)

/-- RESETBUS before any RST pulse: the soft reset, and a pulse where the parameter says so (R346). -/
theorem startResetbus_eq {s : State} (quiet : Notice.rst true ∉ s.notices) :
    ∃ n, startResetbus s = runs { softReset s with notices := n } ∧
      (Notice.rst true ∈ n ↔ s.params.resetBusDrivesRst = true) := by
  simp only [startResetbus, softReset_params]
  split_ifs with drives
  · exact ⟨_, rfl, by simp [drives]⟩
  · exact ⟨_, rfl, iff_of_false (fun h => quiet (rst_mem_softReset.mp h)) drives⟩

/-! ### RESET and RESETBUS -/

/-- A valid command's byte in slot 0 of a queue that holds nothing else: its rule runs on the accepted command. -/
theorem startOnly_accepted {s : State} (k : Cmd) (d : Bool)
    (valid : commandValid s.params.variant s.mode k.code = true) :
    startOnly { s with notices := [], command0 := k.byte d, cmdCount := 1 } =
      settled (commandRule k (accepted k d s)) := by
  rw [← dmaReload_accepted]
  exact startOnly_valid (by rw [cmdCode_byte, decodeCmd_code]) valid

/-- A reset command runs its rule, whatever is queued: its byte empties the queue first (R301, R308). -/
theorem exec_resetCommand {s : State} (k : Cmd) (d : Bool) (live : s.live) (hk : k ∈ [Cmd.reset, .resetbus]) :
    exec (k.instr d) s = .next (settled (commandRule k (accepted k d s))) := by
  have reset : isResetByte (k.byte d) = true := by
    rw [isResetByte, cmdCode_byte]
    revert k
    decide
  have valid : commandValid s.params.variant s.mode k.code = true :=
    valid_group0 (List.mem_cons_of_mem _ (List.mem_cons_of_mem _ hk))
  calc exec (k.instr d) s = .next (commandWrite (k.byte d) { s with notices := [] }) :=
        (exec_instr k d s).trans (event_live live)
    _ = .next (startOnly { s with notices := [], command0 := k.byte d, cmdCount := 1 }) :=
        congrArg _ (commandWrite_reset reset)
    _ = .next (settled (commandRule k (accepted k d s))) := congrArg _ (startOnly_accepted k d valid)

theorem byte_reset (d : Bool) : Cmd.reset.byte d = if d then 0x82#8 else 0x02#8 := by cases d <;> rfl

theorem byte_resetbus (d : Bool) : Cmd.resetbus.byte d = if d then 0x83#8 else 0x03#8 := by cases d <;> rfl

/-- Settles O24: the rule of RESET is the hard reset of the accepted command. -/
theorem resetCommandHardResets : Obligations.ResetCommandHardResets := by
  intro s d live
  have run : exec (.reset d) s = .next (hardReset (accepted .reset d s)) := exec_resetCommand .reset d live (by decide)
  rw [run, hardReset_eq, ← byte_reset]
  exact ⟨_, rfl⟩

/-- Settles O25: the rule of RESETBUS is the soft reset of the accepted command, and its pulse. -/
theorem resetbusCommandSoftResets : Obligations.ResetbusCommandSoftResets := by
  intro s d live
  have run : exec (.resetbus d) s = .next (settled (startResetbus (accepted .resetbus d s))) :=
    exec_resetCommand .resetbus d live (by decide)
  obtain ⟨n, rule, pulse⟩ := startResetbus_eq (rst_notMem_accepted true .resetbus d s)
  rw [run, rule, settled_runs, softReset_eq, ← byte_resetbus]
  exact ⟨n, rfl, pulse⟩

/-! ### Commands the block does not implement -/

section
variable {k : Cmd}
  (hk : k ∈ [Cmd.sendmsg, .sendstatus, .senddata, .discseq, .termseq, .tccs, .disconnect, .recvmsg, .recvcmd,
    .recvdata, .recvcmdseq])
include hk

theorem valid_target {var : Config.Variant} : commandValid var .target k.code = true := by
  revert k
  cases var <;> decide

/-- No target command is implemented (R440 to R450). -/
theorem commandRule_target (s : State) : commandRule k s = unimplemented s := by
  cases k with
  | sendmsg | sendstatus | senddata | discseq | termseq | tccs | disconnect | recvmsg | recvcmd | recvdata
  | recvcmdseq => rfl
  | _ => exact absurd hk (by decide)

end

/-! The two commands the NCR5390 does not have (R153). -/

theorem valid_cmd04 {var : Config.Variant} (m : Mode) (hv : var ≠ .ncr5390) :
    commandValid var m Cmd.cmd04.code = true :=
  (commandValid_iff var m _).mpr (.inr (.inl ⟨rfl, hv⟩))

theorem valid_selatn3 {var : Config.Variant} (hv : var ≠ .ncr5390) :
    commandValid var .disconnected Cmd.selatn3.code = true :=
  (commandValid_iff var _ _).mpr (.inr (.inr (.inr (.inr (.inr ⟨rfl, rfl, hv⟩)))))

/-- A valid command that is not implemented, started in the empty queue: the fault, after the reload (R308, R541). -/
theorem exec_unimplemented {s : State} (k : Cmd) (d : Bool) (live : s.live) (empty : s.queueEmpty)
    (valid : commandValid s.params.variant s.mode k.code = true)
    (rule : commandRule k (accepted k d s) = unimplemented (accepted k d s)) :
    exec (k.instr d) s = .next { accepted k d s with fault := some .unimplementedCommand } := by
  rw [exec_valid k d live empty valid, rule]
  rfl

/-- Settles O26: each is valid where it starts, and its rule is the fault alone. -/
theorem unimplementedCommandsFault : Obligations.UnimplementedCommandsFault := by
  intro s d live empty
  refine ⟨fun hv => ?_, fun hm => ?_, fun hm hv => ?_, fun hm k hk => ?_⟩
  · exact exec_unimplemented .cmd04 d live empty (valid_cmd04 s.mode hv) rfl
  · exact exec_unimplemented .reselect d live empty (hm ▸ valid_disconnected (by decide)) rfl
  · exact exec_unimplemented .selatn3 d live empty (hm ▸ valid_selatn3 hv) rfl
  · exact exec_unimplemented k d live empty (hm ▸ valid_target hk) (commandRule_target hk _)

end Sys2Proof.Machine


/-! The commands of mode Disconnected (44): the start of a selection, and the two states that wait for the target to
request a byte of it. -/

namespace Sys2Proof.Machine

/-! ### The start of a selection -/

/-- An outward direction under the DMA bit requests until terminal count or a full FIFO, and none does not (R535). -/
theorem drqLevel_outward_ite {s : State} {d : Bool} (h : s.dmaDir = if d then .outward else .off) :
    drqLevel s = (d && !s.tc && decide (s.fifo.length < 16)) := by
  cases d <;> simp [drqLevel_eq, h]

/-- The start the selections share, field by field (R250, R360): the DMA direction, then `Arbitrate()`. -/
theorem beginSelection_eq (s : State) : ∃ n, beginSelection s = { s with
    notices := n, seq := 0#3, coarse := .discSelArbitrationInit, sub := some .arbComplete
    dmaDir := if s.dmaCommand then .outward else .off
    drq := s.dmaCommand && !s.tc && decide (s.fifo.length < 16)
    dataDrive := 1#8 <<< s.ownId.toNat
    ctrlDrive := s.ctrlDrive ||| lineBsy
    timer := some (s.params.delayArb * clockFactor s) } := by
  refine ⟨(beginSelection s).notices, ?_⟩
  have requests := drqLevel_outward_ite (s := { s with dmaDir := if s.dmaCommand then .outward else .off }) rfl
  rw [← requests, beginSelection, arbitrate, driveCtrl_assert]
  rfl

/-- The three selections have one rule (R360, R362, R364). -/
theorem commandRule_selection {k : Cmd} (hk : k ∈ [Cmd.select, .selatn, .selatnstop]) (s : State) :
    commandRule k s = runs (beginSelection s) := by
  simp only [List.mem_cons, List.not_mem_nil, or_false] at hk
  rcases hk with rfl | rfl | rfl <;> rfl

/-- Settles O27: each is valid in mode Disconnected, and its rule is the selections' start of the accepted command. -/
theorem selectionsStartArbitration : Obligations.SelectionsStartArbitration := by
  intro s d k live empty hm hk
  have valid : commandValid s.params.variant s.mode k.code = true := by
    have listed : k ∈ [Cmd.reselect, .select, .selatn, .selatnstop, .ensel, .dissel] := by
      revert k
      decide
    exact hm ▸ valid_disconnected listed
  obtain ⟨n, begins⟩ := beginSelection_eq (accepted k d s)
  refine ⟨n, ?_⟩
  rw [exec_valid k d live empty valid, commandRule_selection hk, settled_runs, begins]
  cases d <;> rfl

/-! ### A byte of a selection -/

section
variable {s : State} {r : Reason}

/-- Both waits of a selection hold without REQ (R374, R376). -/
theorem seqStep_selection_waitsReq (hc : connected s) (hu : s.sub = none)
    (hk : s.coarse = .discSelAtnWaitReq ∨ s.coarse = .discSelWaitReq) (hr : asserted (busCtrl s) lineReq = false) :
    seqStep r s = s := by
  have noReq : (!asserted (busCtrl s) lineReq) = true := by simp [hr]
  rcases hk with hk | hk <;> exact seqStep_halt ((stepOnce_at hc hu hk).trans (if_pos noReq))

/-- Where a coarse handler sends a byte, the invocation ends at the settle delay (R260). -/
theorem seqStep_sends {c : Coarse} {t : State} {b : Byte} {rest : List Byte} (hc : connected s) (hu : s.sub = none)
    (hk : s.coarse = c) (sends : dispatchCoarse c (busCtrl s) s = sendByte t) (ht : t.coarse ≠ .initXfrSendPad)
    (hf : t.fifo = b :: rest) :
    seqStep r s = { updateDrq { t with fifo := rest } with
      sub := some .sendWaitSettle, dataDrive := b, ctrlDrive := t.ctrlDrive ||| lineAck
      timer := some t.syncPeriod.toNat } :=
  seqStep_halt (((stepOnce_at hc hu hk).trans sends).trans (sendByte_some ht hf))

variable {ctrl : Lines} (hr : asserted ctrl lineReq = true)
include hr

/-- REQ outside Message Out stops the selection (R374). -/
theorem discSelAtnWaitReq_stops (hp : phaseOf ctrl ≠ phMessageOut) :
    discSelAtnWaitReq ctrl s = halt (functionComplete s) := by
  rw [discSelAtnWaitReq, if_neg (by simp [hr]), if_pos hp]

/-- REQ in Message Out holds on an empty FIFO (R374). -/
theorem discSelAtnWaitReq_held (hp : phaseOf ctrl = phMessageOut) (hf : s.fifo = []) :
    discSelAtnWaitReq ctrl s = halt s := by
  rw [discSelAtnWaitReq, if_neg (by simp [hr]), if_neg (not_not_intro hp), if_pos hf]

/-- REQ outside Command, or with every byte sent, ends the selection with its sequence step (R376). -/
theorem discSelWaitReq_ends (h : phaseOf ctrl ≠ phCommand ∨ s.commandLength = 0) :
    discSelWaitReq ctrl s = halt (functionComplete { s with seq := selectionEndSeq s }) := by
  rw [discSelWaitReq, if_neg (by simp [hr]), if_pos h]

/-- REQ in Command with bytes left holds on an empty FIFO (R376). -/
theorem discSelWaitReq_held (hp : phaseOf ctrl = phCommand) (hn : s.commandLength ≠ 0) (hf : s.fifo = []) :
    discSelWaitReq ctrl s = halt s := by
  rw [discSelWaitReq, if_neg (by simp [hr]), if_neg (by simp [hp, hn]), if_pos hf]

end

/-- Settles O32: the four branches of R374, each run as the whole invocation. -/
theorem messageByteStep : Obligations.MessageByteStep := by
  intro s r hk hu hb
  have held := connected_of_bsy hb
  have once := stepOnce_at (r := r) held hu hk
  refine ⟨fun hr => ?_, fun hr hp => ?_, fun hr hp hf => ?_, fun b rest hr hp hf => ?_⟩
  · exact seqStep_selection_waitsReq held hu (.inl hk) hr
  · exact seqStep_halt (once.trans (discSelAtnWaitReq_stops hr hp))
  · exact seqStep_halt (once.trans (discSelAtnWaitReq_held hr hp hf))
  · have sends := discSelAtnWaitReq_send (s := s) hr hp (by simp [hf])
    rw [releaseAtn_ite] at sends
    simp only [currentIs_iff] at sends
    exact seqStep_sends held hu hk sends (by simp) hf

/-- Settles O33: the branches of R376, each run as the whole invocation. -/
theorem commandByteStep : Obligations.CommandByteStep := by
  intro s r hk hu hb
  have held := connected_of_bsy hb
  have once := stepOnce_at (r := r) held hu hk
  refine ⟨fun hr => ?_, fun hr h => ?_, fun hr hp hn hf => ?_, fun b rest hr hp hn hf => ?_⟩
  · exact seqStep_selection_waitsReq held hu (.inr hk) hr
  · exact seqStep_halt (once.trans (discSelWaitReq_ends hr h))
  · exact seqStep_halt (once.trans (discSelWaitReq_held hr hp hn hf))
  · have sends := discSelWaitReq_send (s := s) hr hp hn (by simp [hf])
    exact seqStep_sends held hu hk sends (by simp) hf

end Sys2Proof.Machine

/-! The commands of mode Initiator (45): Transfer Information, Initiator Command Complete, Message Accepted and Transfer
Pad, each at its start and in the states it waits in. -/

namespace Sys2Proof.Machine

/-! ### The start of an initiator command -/

/-- An initiator command that goes on, written into the empty queue: its rule runs on the accepted command (R308). -/
theorem exec_initiator {s t : State} {k : Cmd} (d : Bool) (live : s.live) (empty : s.queueEmpty)
    (hm : s.mode = .initiator) (hk : k ∈ [Cmd.xfer, .iccs, .msgacc, .pad, .setatn, .resetatn])
    (rule : commandRule k (accepted k d s) = runs t) : exec (k.instr d) s = .next t := by
  have valid : commandValid s.params.variant s.mode k.code = true := hm ▸ valid_initiator hk
  rw [exec_valid k d live empty valid, rule, settled_runs]

/-- Without a sub-state both reasons are answered alike (R230, R231). -/
theorem seqStep_reason {s : State} (hu : s.sub = none) (r r' : Reason) : seqStep r s = seqStep r' s := by
  have once : stepOnce r s = stepOnce r' s := by
    by_cases hc : connected s
    · rw [stepOnce_coarse hc hu, stepOnce_coarse hc hu]
    · rw [stepOnce_released hc, stepOnce_released hc]
  simp only [seqStep, stepChain, once]

/-! ### Transfer Information -/

/-- The transfer XFER starts: the phase captured, and the DMA direction with it (R390). -/
abbrev xferBegun (d : Bool) (p : PhaseCode) (dir : DmaDir) (s : State) : State := updateDrq { accepted .xfer d s with
  xfrPhase := p, dmaDir := dir, coarse := .initXfr, sub := none }

theorem exec_xfer {s : State} {d : Bool} {p : PhaseCode} {dir : DmaDir} (live : s.live) (empty : s.queueEmpty)
    (hm : s.mode = .initiator) (hp : p = phaseOf (busCtrl s)) (hdir : transferDir (accepted .xfer d s) p = dir) :
    exec (.xfer d) s = .next (seqStep .signal (xferBegun d p dir s)) := by
  subst hp hdir
  exact exec_initiator (k := .xfer) d live empty hm (by decide) rfl

/-- At the start of a command the count is not at terminal count under the DMA bit (R306). -/
theorem xferBegun_uncounted (d : Bool) (p : PhaseCode) (dir : DmaDir) (s : State) :
    ((xferBegun d p dir s).dmaCommand = false ∨ (xferBegun d p dir s).tc = true) ↔ d = false := by
  cases d <;> simp [accepted, reloaded]

/-- The counter XFER starts with, where the DMA bit makes it count (R306). -/
theorem xferBegun_lastCount (d : Bool) (p : PhaseCode) (dir : DmaDir) (s : State) :
    ((xferBegun d p dir s).dmaCommand = false ∨ (xferBegun d p dir s).tcounter = 1#16) ↔
      d = false ∨ s.tcount = 1#16 := by
  cases d <;> simp [accepted, reloaded]

theorem transferDir_accepted (k : Cmd) (d : Bool) (s : State) (p : PhaseCode) :
    transferDir (accepted k d s) p = if d then (if inbound p then .inward else .outward) else .off := by
  cases d <;> rfl

/-! The phases by their codes (R161), as `INIT_XFR` tells them apart. -/

theorem outbound_iff {p : PhaseCode} : p = phDataOut ∨ p = phCommand ∨ p = phMessageOut ↔ p ∈ [0#3, 2#3, 6#3] := by
  simp [phDataOut, phCommand, phMessageOut]

theorem inbound_iff {p : PhaseCode} : p = phDataIn ∨ p = phStatus ∨ p = phMessageIn ↔ p ∈ [1#3, 3#3, 7#3] := by
  simp [phDataIn, phStatus, phMessageIn]

theorem phases_exclusive (p : PhaseCode) : (p ∈ [1#3, 3#3, 7#3] → p ∉ [0#3, 2#3, 6#3]) ∧
    (p ∈ [4#3, 5#3] → p ∉ [0#3, 2#3, 6#3] ∧ p ∉ [1#3, 3#3, 7#3]) := by
  revert p; decide

section
variable {s : State} {r : Reason}

/-- `INIT_XFR` in an outbound phase holds on an empty FIFO (R392). -/
theorem initXfr_outbound_held (hp : s.xfrPhase ∈ [0#3, 2#3, 6#3]) (hf : s.fifo = []) : initXfr s = halt s := by
  rw [initXfr, if_pos (outbound_iff.mpr hp), if_pos hf]

/-- In an inbound phase it holds on a full FIFO (R392). -/
theorem initXfr_inbound_held (hp : s.xfrPhase ∈ [1#3, 3#3, 7#3]) (hf : s.fifo.length = 16) : initXfr s = halt s := by
  have notOut := (phases_exclusive s.xfrPhase).1 hp
  rw [initXfr, if_neg (mt outbound_iff.mp notOut), if_pos (inbound_iff.mpr hp), if_pos hf]

/-- In a reserved phase it completes (R392). -/
theorem initXfr_reserved (hp : s.xfrPhase ∈ [4#3, 5#3]) : initXfr s = halt (functionComplete s) := by
  obtain ⟨notOut, notIn⟩ := (phases_exclusive s.xfrPhase).2 hp
  rw [initXfr, if_neg (mt outbound_iff.mp notOut), if_neg (mt inbound_iff.mp notIn)]

/-- Where `INIT_XFR` moves nothing, the invocation ends with what it comes to. -/
theorem seqStep_initXfr_halt {t : State} (h : initXfr s = halt t) (hb : asserted (busCtrl s) lineBsy = true)
    (hu : s.sub = none) (hk : s.coarse = .initXfr) : seqStep r s = t :=
  seqStep_halt ((stepOnce_at (connected_of_bsy hb) hu hk).trans h)

theorem lastMessageOut_cons {b : Byte} {rest : List Byte} (hf : s.fifo = b :: rest) :
    lastMessageOut s = true ↔ s.xfrPhase = 6#3 ∧ rest = [] ∧ (s.dmaCommand = false ∨ s.tc = true) := by
  simp [lastMessageOut, phMessageOut, hf, and_assoc]

/-- A transfer in an outbound phase sends the FIFO's head, the last byte of a message with ATN released (R392, R260). -/
theorem seqStep_initXfr_outbound {b : Byte} {rest : List Byte} (hc : connected s) (hu : s.sub = none)
    (hk : s.coarse = .initXfr) (hp : s.xfrPhase ∈ [0#3, 2#3, 6#3]) (hf : s.fifo = b :: rest) :
    seqStep r s = { updateDrq { s with fifo := rest } with
      coarse := .initXfrSendByte, sub := some .sendWaitSettle, dataDrive := b
      ctrlDrive := (if s.xfrPhase = 6#3 ∧ rest = [] ∧ (s.dmaCommand = false ∨ s.tc = true) then
        s.ctrlDrive &&& ~~~lineAtn else s.ctrlDrive) ||| lineAck
      timer := some s.syncPeriod.toNat } := by
  have sends := initXfr_outbound hp (by simp [hf])
  rw [releaseAtn_ite] at sends
  simp only [lastMessageOut_cons hf] at sends
  exact seqStep_sends hc hu hk sends (by simp) hf

end

/-- Settles O34: the start is an invocation in `INIT_XFR` of the transfer begun. -/
theorem xferOutbound : Obligations.XferOutbound := by
  refine ⟨fun s d p live empty hm hb hp outbound => ?_, fun s r hk hu hb outbound => ?_⟩
  · have outward : transferDir (accepted .xfer d s) p = if d then .outward else .off := by
      rw [transferDir_accepted]
      clear hp; revert p d; decide
    rw [exec_xfer live empty hm hp outward]
    refine ⟨fun hf => congrArg _ ?_, fun b rest hf => congrArg _ ?_⟩
    · exact seqStep_initXfr_halt (initXfr_outbound_held (s := xferBegun d p _ s) outbound hf) hb rfl rfl
    · have sent := seqStep_initXfr_outbound (r := .signal) (s := xferBegun d p (if d then .outward else .off) s)
        (connected_of_bsy hb) rfl rfl outbound hf
      simp only [xferBegun_uncounted] at sent
      exact sent
  · exact ⟨fun hf => seqStep_initXfr_halt (initXfr_outbound_held outbound hf) hb hu hk,
      fun b rest hf => seqStep_initXfr_outbound (connected_of_bsy hb) hu hk outbound hf⟩

/-- Settles O35: the start is an invocation in `INIT_XFR` of the transfer begun. -/
theorem xferInbound : Obligations.XferInbound := by
  refine ⟨fun s d p live empty hm hb hp inward => ?_, fun s r hk hu hb inward => ?_⟩
  · have direction : transferDir (accepted .xfer d s) p = if d then .inward else .off := by
      rw [transferDir_accepted]
      clear hp; revert p d; decide
    have moves (req : Bool) (hr : asserted (busCtrl s) lineReq = req) (hf : s.fifo.length ≠ 16) :=
      seqStep_initXfr_inbound (s := xferBegun d p (if d then .inward else .off) s) hr (connected_of_bsy hb) rfl rfl
        inward hf
    simp only [xferBegun_lastCount] at moves
    rw [exec_xfer live empty hm hp direction]
    refine ⟨fun hf => congrArg _ ?_, fun hf hr => congrArg _ (moves true hr hf),
      fun hf hr => congrArg _ (moves false hr hf)⟩
    exact seqStep_initXfr_halt (initXfr_inbound_held (s := xferBegun d p _ s) inward hf) hb rfl rfl
  · have moves (req : Bool) (hr : asserted (busCtrl s) lineReq = req) (hf : s.fifo.length ≠ 16) :=
      (seqStep_reason hu r .signal).trans (seqStep_initXfr_inbound hr (connected_of_bsy hb) hu hk inward hf)
    exact ⟨fun hf => seqStep_initXfr_halt (initXfr_inbound_held inward hf) hb hu hk, fun hf hr => moves true hr hf,
      fun hf hr => moves false hr hf⟩

/-- Settles O36: the start is an invocation in `INIT_XFR` of the transfer begun. -/
theorem xferReservedPhase : Obligations.XferReservedPhase := by
  refine ⟨fun s d p live empty hm hb hp reserved => ?_, fun s r hk hu hb reserved => ?_⟩
  · have ends := seqStep_initXfr_halt (r := .signal)
      (initXfr_reserved (s := xferBegun d p (transferDir (accepted .xfer d s) p) s) reserved) hb rfl rfl
    rw [functionComplete, complete_eq (by decide)] at ends
    exact ⟨_, (exec_xfer live empty hm hp rfl).trans (congrArg _ ends)⟩
  · exact seqStep_initXfr_halt (initXfr_reserved reserved) hb hu hk

/-! ### The end of a transfer -/

theorem transferDone_iff {s : State} : transferDone s = true ↔
    (s.dmaCommand = true ∧ s.tc = true ∧ (s.dmaDir = .inward ∨ s.fifo = [])) ∨
      (s.dmaCommand = false ∧ (s.xfrPhase.getLsbD 0 = true ∨ s.fifo = [])) := by
  unfold transferDone inbound
  cases s.dmaCommand with
  | true => simp
  | false => cases s.xfrPhase.getLsbD 0 <;> simp

section
variable {s : State} {r : Reason}

/-- `INIT_XFR_BUS_COMPLETE` holds while DMA-in bytes are not drained and completes otherwise (R400). -/
theorem seqStep_initXfrBusComplete (hc : connected s) (hu : s.sub = none) (hk : s.coarse = .initXfrBusComplete) :
    seqStep r s = if s.dmaCommand = true ∧ s.dmaDir = .inward ∧ s.fifo ≠ [] then s else busComplete s := by
  have ends := stepOnce_at (r := r) hc hu hk
  simp only [dispatchCoarse, initXfrBusComplete, drainPending_iff] at ends
  exact seqStep_halt_ite ends

/-- At REQ a transfer goes on as `INIT_XFR_BUS_COMPLETE` where it is done or the phase changed, and as `INIT_XFR`
otherwise (R395). -/
theorem seqStep_initXfrWaitReq (hc : connected s) (hu : s.sub = none) (hk : s.coarse = .initXfrWaitReq)
    (hr : asserted (busCtrl s) lineReq = true) : seqStep r s = seqStep .signal (goCoarse
      (if transferDone s = true ∨ phaseOf (busCtrl s) ≠ s.xfrPhase then .initXfrBusComplete else .initXfr) s) := by
  refine seqStep_tail ((stepOnce_at hc hu hk).trans ?_)
  rw [dispatchCoarse, initXfrWaitReq, if_neg (by simp [hr])]
  split <;> rfl

end

/-- Settles O37: at REQ the transfer is over by R395's condition, and both drains are the states' own. -/
theorem transferEndsAtRequest : Obligations.TransferEndsAtRequest := by
  intro s r hu hb ends
  have held := connected_of_bsy hb
  have done_iff : transferDone s = true ∨ phaseOf (busCtrl s) ≠ s.xfrPhase ↔ ends := by
    rw [transferDone_iff, or_comm]
  refine ⟨fun hk => ⟨fun hr => ?_, fun hr done => ?_, fun hr more => ?_⟩, fun hk => ?_, fun hk => ?_⟩
  · exact seqStep_waitsReq held hu (by simp [hk]) hr
  · rw [seqStep_initXfrWaitReq held hu hk hr, if_pos (done_iff.mpr done)]
    exact seqStep_initXfrBusComplete held hu rfl
  · rw [seqStep_initXfrWaitReq held hu hk hr, if_neg (mt done_iff.mp more)]
    rfl
  · exact seqStep_initXfrBusComplete held hu hk
  · exact seqStep_initXfrFunctionComplete held hu hk

/-! ### A wait for a byte of one phase -/

/-- A wait that takes a byte of one phase `p`: without REQ it holds, at a REQ in another phase it ends with bus service,
and at a REQ in that phase its byte is begun, which leaves `t` (R412, R419, R422). -/
structure PhaseWait (r : Reason) (p : PhaseCode) (s t : State) : Prop where
  holds : asserted (busCtrl s) lineReq = false → seqStep r s = s
  ends : asserted (busCtrl s) lineReq = true → phaseOf (busCtrl s) ≠ p → seqStep r s = busComplete s
  moves : asserted (busCtrl s) lineReq = true → phaseOf (busCtrl s) = p → seqStep r s = t

section
variable {s : State} {r : Reason}

/-- The three handlers that wait so have one shape, and differ in what begins the byte. -/
theorem phaseWait_of_stepOnce {p : PhaseCode} {m : Micro} {t : State}
    (h : stepOnce r s = if !asserted (busCtrl s) lineReq then halt s
      else if phaseOf (busCtrl s) ≠ p then halt (busComplete s) else m)
    (begins : asserted (busCtrl s) lineReq = true → stepOnce r s = m → seqStep r s = t) : PhaseWait r p s t where
  holds hr := seqStep_halt (h.trans (if_pos (by simp [hr])))
  ends hr hp := seqStep_halt (h.trans ((if_neg (by simp [hr])).trans (if_pos hp)))
  moves hr hp := begins hr (h.trans ((if_neg (by simp [hr])).trans (if_neg (not_not_intro hp))))

/-- A receive begun at a REQ waits for the settle delay (R263, R264). -/
theorem seqStep_receives {c : Coarse} (hc : connected s) (hr : asserted (busCtrl s) lineReq = true)
    (h : stepOnce r s = recvByte (goCoarse c s)) :
    seqStep r s = { s with coarse := c, sub := some .recvWaitSettle, timer := some s.syncPeriod.toNat } :=
  (seqStep_tail h).trans (seqStep_recvWaitReq1 (s := goSub .recvWaitReq1 (goCoarse c s)) hr hc rfl)

variable (hb : asserted (busCtrl s) lineBsy = true) (hu : s.sub = none)
include hb hu

/-- The message byte of ICCS is received in Message In (R412). -/
theorem phaseWait_initCptRecvWaitReq (hk : s.coarse = .initCptRecvWaitReq) : PhaseWait r 7#3 s { s with
    coarse := .initCptRecvByteNack, sub := some .recvWaitSettle, timer := some s.syncPeriod.toNat } :=
  have held := connected_of_bsy hb
  phaseWait_of_stepOnce (stepOnce_at held hu hk) (seqStep_receives held)

/-- A pad byte is received in the captured phase (R422). -/
theorem phaseWait_initXfrRecvPadWaitReq (hk : s.coarse = .initXfrRecvPadWaitReq) : PhaseWait r s.xfrPhase s { s with
    coarse := .initXfrRecvPad, sub := some .recvWaitSettle, timer := some s.syncPeriod.toNat } :=
  have held := connected_of_bsy hb
  phaseWait_of_stepOnce (stepOnce_at held hu hk) (seqStep_receives held)

/-- A pad byte is sent in the captured phase (R419, R260). -/
theorem phaseWait_initXfrSendPadWaitReq (hk : s.coarse = .initXfrSendPadWaitReq) : PhaseWait r s.xfrPhase s { s with
    coarse := .initXfrSendPad, sub := some .sendWaitSettle, dataDrive := 0x00#8
    ctrlDrive := s.ctrlDrive ||| lineAck, timer := some s.syncPeriod.toNat } :=
  phaseWait_of_stepOnce (stepOnce_at (connected_of_bsy hb) hu hk)
    fun _ sends => seqStep_halt (sends.trans (sendByte_pad (s := goCoarse .initXfrSendPad s) rfl))

end

/-! ### Initiator Command Complete -/

/-- Settles O38: the first byte's receive, then the three states of ICCS, each on the byte received. -/
theorem iccsReceivesStatus : Obligations.IccsReceivesStatus := by
  intro s hb
  have held := connected_of_bsy hb
  refine ⟨fun d live empty hm => ?_, fun r hk hu hr => ?_, fun r hk hu => ?_, fun r hk hu hr => ?_⟩
  · have run := exec_initiator (k := .iccs) d live empty hm (by decide) rfl
    have receives (req : Bool) (hr : asserted (busCtrl s) lineReq = req) := seqStep_recvWaitReq1
      (s := goSub .recvWaitReq1 { accepted .iccs d s with coarse := .initCptRecvByteAck }) hr held rfl
    exact ⟨fun hr => run.trans (congrArg _ (receives true hr)),
      fun hr => run.trans (congrArg _ (receives false hr))⟩
  · rw [seqStep_recvWaitReq0 hb hu hr, seqStep_halt (stepOnce_byteReceived hb hk), driveCtrl_release]
    rfl
  · have waits := phaseWait_initCptRecvWaitReq (r := r) hb hu hk
    exact ⟨waits.holds, waits.ends, waits.moves⟩
  · rw [seqStep_recvWaitReq0 hb hu hr, seqStep_halt (stepOnce_byteReceived hb hk)]
    exact ⟨_, complete_eq (by decide)⟩

/-! ### Message Accepted -/

/-- `INIT_MSG_WAIT_REQ` waits for REQ, and ends there with bus service (R416). -/
theorem seqStep_initMsgWaitReq {s : State} {r : Reason} (hb : asserted (busCtrl s) lineBsy = true) (hu : s.sub = none)
    (hk : s.coarse = .initMsgWaitReq) : seqStep r s = if asserted (busCtrl s) lineReq then busComplete s else s := by
  have waits := stepOnce_at (r := r) (connected_of_bsy hb) hu hk
  rw [dispatchCoarse, initMsgWaitReq, hb] at waits
  cases hr : asserted (busCtrl s) lineReq <;> rw [hr] at waits <;> exact seqStep_halt waits

/-- The state MSGACC waits in: the sequence step cleared, ACK released (R415). -/
abbrev msgaccBegun (d : Bool) (s : State) : State := { accepted .msgacc d s with
  seq := 0#3, ctrlDrive := s.ctrlDrive &&& ~~~lineAck, coarse := .initMsgWaitReq, sub := none }

theorem exec_msgacc {s : State} {d : Bool} (live : s.live) (empty : s.queueEmpty) (hm : s.mode = .initiator) :
    exec (.msgacc d) s = .next (seqStep .signal (msgaccBegun d s)) := by
  refine exec_initiator (k := .msgacc) d live empty hm (by decide) ?_
  rw [commandRule, startMsgacc, driveCtrl_release]
  rfl

/-- Settles O39: the start is an invocation in `INIT_MSG_WAIT_REQ` with ACK released. -/
theorem msgaccReleasesAck : Obligations.MsgaccReleasesAck := by
  refine ⟨fun s d live empty hm => ?_, fun s r hk hu hb => seqStep_initMsgWaitReq hb hu hk⟩
  have bus (l : Lines) (hl : l &&& lineAck = 0#9) : asserted (busCtrl (msgaccBegun d s)) l = asserted (busCtrl s) l :=
    asserted_release s hl
  have waits (hb : asserted (busCtrl s) lineBsy = true) :=
    seqStep_initMsgWaitReq (r := .signal) ((bus lineBsy rfl).trans hb) rfl rfl
  simp only [bus lineReq rfl] at waits
  rw [exec_msgacc live empty hm]
  refine ⟨fun hb hr => congrArg _ ?_, fun hb hr => congrArg _ ?_, fun hb => ?_⟩
  · rw [waits hb, hr]
    rfl
  · rw [waits hb, hr]
    rfl
  · obtain ⟨n, ended⟩ := disconnectEndsConnection (msgaccBegun d s) .signal hm ((bus lineBsy rfl).trans hb)
    exact ⟨n, congrArg _ ended⟩

/-! ### Transfer Pad -/

/-- The phase reads as before where the lines released are none of its own. -/
theorem phaseOf_release {m : Lines} (s : State) (h : 0x007#9 &&& m = 0#9) :
    phaseOf (s.ctrlDrive &&& ~~~m ||| s.envCtrl) = phaseOf (busCtrl s) := by
  rw [← phaseOf_driveCtrl (v := 0#9) s h, driveCtrl_release]
  rfl

theorem release_assert (c m : Lines) : c &&& ~~~m ||| m = c ||| m := by
  simpa using drive_assert c m

/-- The state PAD waits in: the phase captured, DRQ withdrawn and ACK released (R418). -/
abbrev padBegun (d : Bool) (p : PhaseCode) (s : State) : State := updateDrq { accepted .pad d s with
  xfrPhase := p, dmaDir := .off, ctrlDrive := s.ctrlDrive &&& ~~~lineAck
  coarse := if p.getLsbD 0 then .initXfrRecvPadWaitReq else .initXfrSendPadWaitReq
  sub := none }

theorem exec_pad {s : State} {d : Bool} {p : PhaseCode} (live : s.live) (empty : s.queueEmpty)
    (hm : s.mode = .initiator) (hp : p = phaseOf (busCtrl s)) :
    exec (.pad d) s = .next (seqStep .signal (padBegun d p s)) := by
  subst hp
  refine exec_initiator (k := .pad) d live empty hm (by decide) ?_
  rw [commandRule, startPad, driveCtrl_release]
  rfl

/-- Settles O40: the start is an invocation in the waiting state of its direction with ACK released. -/
theorem padStarts : Obligations.PadStarts := by
  refine ⟨fun s d p live empty hm hb hp => ?_, fun s r hk hu hb => ?_, fun s r hk hu hb => ?_⟩
  · have bus (l : Lines) (hl : l &&& lineAck = 0#9) : asserted (busCtrl (padBegun d p s)) l = asserted (busCtrl s) l :=
      asserted_release s hl
    have bsy := (bus lineBsy rfl).trans hb
    have phase : phaseOf (busCtrl (padBegun d p s)) = p := (phaseOf_release s rfl).trans hp.symm
    have waits : (padBegun d p s).coarse ∈ [.initXfrWaitReq, .initXfrSendPadWaitReq, .initXfrRecvPadWaitReq] := by
      simp only [updateDrq_coarse]
      split <;> decide
    rw [exec_pad live empty hm hp]
    refine ⟨fun hr => congrArg _ ?_, fun hr out => congrArg _ ?_, fun hr inward => congrArg _ ?_⟩
    · exact seqStep_waitsReq (connected_of_bsy bsy) rfl waits ((bus lineReq rfl).trans hr)
    · have sends := phaseWait_initXfrSendPadWaitReq (r := .signal) bsy rfl (if_neg (Bool.eq_false_iff.mp out))
      rw [sends.moves ((bus lineReq rfl).trans hr) phase, ← release_assert s.ctrlDrive lineAck]
      rfl
    · have receives := phaseWait_initXfrRecvPadWaitReq (r := .signal) bsy rfl (if_pos inward)
      exact receives.moves ((bus lineReq rfl).trans hr) phase
  · have waits := phaseWait_initXfrSendPadWaitReq (r := r) hb hu hk
    exact ⟨waits.holds, waits.ends, waits.moves⟩
  · have waits := phaseWait_initXfrRecvPadWaitReq (r := r) hb hu hk
    exact ⟨waits.holds, waits.ends, waits.moves⟩

end Sys2Proof.Machine

/-! The commands of mode Target (46): in every other mode their bytes are illegal. -/

namespace Sys2Proof.Machine

section
variable {k : Cmd}
  (hk : k ∈ [Cmd.sendmsg, .sendstatus, .senddata, .discseq, .termseq, .tccs, .disconnect, .recvmsg, .recvcmd,
    .recvdata, .recvcmdseq])
include hk

/-- The target commands are codes of group 2 (R153). -/
theorem group_target : (k.code.extractLsb' 4 3).toNat = 2 := by
  revert k
  decide

/-- A code of group 2 is valid in mode Target only (R153, R438). -/
theorem invalid_target {var : Config.Variant} {m : Mode} (hm : m ≠ .target) : commandValid var m k.code = false := by
  simp [commandValid, group_target hk, hm]

end

/-- Settles O21: the instruction is the write of its byte, and outside mode Target that byte is not valid. -/
theorem targetCommandsIllegalOutsideTarget : Obligations.TargetCommandsIllegalOutsideTarget := by
  intro s d k live empty hm hk
  have invalid : commandValid s.params.variant s.mode (cmdCode (k.byte d)) = false := by
    rw [cmdCode_byte]
    exact invalid_target hk hm
  exact (exec_instr k d s).trans (exec_wrCmd_invalid live empty invalid)

end Sys2Proof.Machine

/-! Register access (47): what each read answers, what each write stores, and the interrupt-status read, which pops and
chains. -/

namespace Sys2Proof.Machine

/-! ### Every instruction is one event -/

/-- Every instruction's meaning is one event, a raise within it included (R10, R541). -/
theorem exec_isEvent (i : Instr) : ∃ f : State → State, ∀ s, exec i s = event f s := by
  cases i <;> simp only [exec] <;> exact ⟨_, fun _ => rfl⟩

/-- Settles O8: on a live device an event answers the state it leaves. -/
theorem everyInstructionAnswers : Obligations.EveryInstructionAnswers := by
  intro i s live
  obtain ⟨f, event_of⟩ := exec_isEvent i
  exact ⟨_, (event_of s).trans (event_live live)⟩

/-! ### Plain registers -/

/-- A read without a side effect on a live device: its byte, taken from the state as the event begins (R496). -/
theorem event_read {f : State → Byte} {s : State} (live : s.live) :
    event (fun t => answer (f t) t) s = .next { s with notices := [], readData := f { s with notices := [] } } :=
  (event_live live).trans (congrArg _ (answer_live _ live))

/-- The low byte of a count is its bits 7 to 0 (R125). -/
theorem lowByte_eq (n : Count) : lowByte n = n.extractLsb' 0 8 := BitVec.setWidth_eq_extractLsb' (by decide)

/-- Settles O9: a write is an event that replaces one byte of the load value. -/
theorem counterLoadWrites : Obligations.CounterLoadWrites := by
  intro s v live
  rw [← lowByte_eq]
  simp only [exec]
  exact ⟨event_live live, event_live live⟩

/-- Settles O10: a write is an event that stores the bits the register holds, the low ones of the byte. -/
theorem plainRegisterWrites : Obligations.PlainRegisterWrites := by
  intro s v live
  have low {w : Nat} (h : w ≤ 8) : v.extractLsb' 0 w = v.setWidth w := (BitVec.setWidth_eq_extractLsb' h).symm
  rw [low (by decide), low (by decide), low (by decide)]
  simp only [exec]
  exact ⟨event_live live, event_live live, event_live live, event_live live, event_live live, event_live live⟩

/-- Settles O11: the event sets test mode where bit 3 is set, and leaves it as it is where not. -/
theorem configWriteLatches : Obligations.ConfigWriteLatches := by
  intro s v live
  have testMode : (if v.getLsbD 3 then true else s.testMode) = (s.testMode || v.getLsbD 3) := by
    cases v.getLsbD 3 <;> simp
  rw [testMode, ← BitVec.setWidth_eq_extractLsb' (by decide)]
  simp only [exec]
  exact event_live live

/-- Settles O15: each is a read without a side effect. -/
theorem plainRegisterReads : Obligations.PlainRegisterReads := by
  intro s live
  rw [← lowByte_eq]
  simp only [exec]
  exact ⟨event_read live, event_read live, event_read live, event_read live, event_read live, event_read live⟩

/-! ### Registers only some variants have -/

section
variable {s : State}

theorem hasConfig2_iff : hasConfig2 s = true ↔ s.params.variant = .ncr53c90a ∨ s.params.variant = .ncr53c94 := by
  unfold hasConfig2
  cases s.params.variant <;> decide

theorem hasConfig3_iff : hasConfig3 s = true ↔ s.params.variant = .ncr53c94 := beq_iff_eq

/-- A read of such a register: its byte where the variant has it, a free value where not (R101). -/
theorem event_variantRead {has : State → Bool} {f : State → Byte} (live : s.live) :
    event (fun t => if has t then answer (f t) t else answerDraw t) s =
      if has { s with notices := [] } = true then .next { s with notices := [], readData := f { s with notices := [] } }
      else .next { s with notices := [], readData := Config.draw 8 s.draws, draws := s.draws + 1 } := by
  rw [event_live live]
  split
  · exact congrArg _ (answer_live _ live)
  · exact congrArg _ (answerDraw_live live)

/-- A write of such a register: its store where the variant has it, nothing where not (R101). -/
theorem event_variantWrite {has : State → Bool} {f : State → State} (live : s.live) :
    event (fun t => if has t then f t else t) s =
      if has { s with notices := [] } = true then .next (f { s with notices := [] })
      else .next { s with notices := [] } :=
  (event_live live).trans (apply_ite _ _ _ _)

end

/-- Settles O12: each access asks whether the variant has the register; no variant reads FALIGN's offset. -/
theorem variantRegisters : Obligations.VariantRegisters := by
  intro s v live
  simp only [← hasConfig2_iff]
  simp only [exec, ← hasConfig3_iff]
  exact ⟨event_variantRead live, event_variantWrite live, event_variantRead live, event_variantWrite live,
    event_variantWrite live, rfl⟩

/-! ### The FIFO register -/

section
variable {s : State} {b : Byte}

/-- A push at capacity drops its byte (R104). -/
theorem fifoPush_full (h : 16 ≤ s.fifo.length) : fifoPush b s = updateDrq s := by
  simp [fifoPush, Config.fifoDepth, Nat.not_lt.mpr h]

/-- A pop of an empty FIFO draws (R105). -/
theorem fifoPop_empty (h : s.fifo = []) : fifoPop s = updateDrq { s with draws := s.draws + 1 } := by
  simp [fifoPop, h]

theorem fifoHead_empty (h : s.fifo = []) : fifoHead s = Config.draw 8 s.draws := by
  simp only [fifoHead, h]

/-- DRQ derived again in an event that has put nothing out: its level by R535's formula, and its edge if it moves. -/
theorem updateDrq_quiet {d : Bool} (quiet : s.notices = []) (level : d =
      ((s.dmaDir == .inward && !s.fifo.isEmpty) || (s.dmaDir == .outward && !s.tc && decide (s.fifo.length < 16)))) :
    updateDrq s = { s with notices := if d = s.drq then [] else [.drq d], drq := d } := by
  rw [level, ← drqLevel_eq, updateDrq, quiet, List.nil_append]

end

/-- Settles O14: the access changes the FIFO, then DRQ is derived from the FIFO left. -/
theorem fifoRegisterAccess : Obligations.FifoRegisterAccess := by
  intro s v live drqWith edge
  have write : exec (.wrFifo v) s = .next (fifoPush v { s with notices := [] }) := event_live live
  have read : exec .rdFifo s =
      .next { fifoPop { s with notices := [] } with readData := fifoHead { s with notices := [] } } := by
    simp only [exec]
    exact (event_live live).trans (congrArg _ (answer_live _ ((fifoPop_fault _).trans live)))
  refine ⟨fun room => ?_, fun full => ?_, fun b rest head => ?_, fun empty => ?_⟩
  · rw [write, fifoPush_room (s := { s with notices := [] }) room, updateDrq_quiet rfl rfl]
  · rw [write, fifoPush_full (s := { s with notices := [] }) full, updateDrq_quiet rfl rfl]
  · rw [read, fifoPop_cons (s := { s with notices := [] }) head, fifoHead_cons (s := { s with notices := [] }) head,
      updateDrq_quiet rfl rfl]
  · have level : drqWith [] = drqWith s.fifo := by rw [empty]
    rw [read, fifoPop_empty (s := { s with notices := [] }) empty, fifoHead_empty (s := { s with notices := [] }) empty,
      updateDrq_quiet (s := { s with notices := [], draws := s.draws + 1 }) rfl level]

/-! ### The status byte -/

/-- A line is one bit of the control lines (R160). -/
theorem asserted_twoPow {i : Nat} (c : Lines) (h : i < 9) : asserted c (BitVec.twoPow 9 i) = c.getLsbD i := by
  have lit : BitVec.twoPow 9 i ≠ 0#9 := by simp [← BitVec.toNat_inj, BitVec.toNat_twoPow_of_lt h]
  rw [asserted, BitVec.and_twoPow]
  cases c.getLsbD i <;> simp [lit]

/-- A flag gives a status byte the bits of its mask while it holds. -/
theorem getLsbD_flag (p : Prop) [Decidable p] (mask : Byte) (i : Nat) :
    (if p then mask else 0x00#8).getLsbD i = (decide p && mask.getLsbD i) := by
  split <;> simp [*]

/-- The status byte bit by bit: its flags, and below them the live phase (R164). -/
theorem getLsbD_statusByte (s : State) (i : Nat) : (statusByte s).getLsbD i =
    (decide (s.params.variant ≠ .ncr5390 ∧ s.irq = true) && (0x80#8).getLsbD i || s.ge && (0x40#8).getLsbD i ||
      s.pe && (0x20#8).getLsbD i || s.tc && (0x10#8).getLsbD i || decide (i < 3) && (busCtrl s).getLsbD i) := by
  have phase : ((phaseOf (busCtrl s)).setWidth 8).getLsbD i = (decide (i < 3) && (busCtrl s).getLsbD i) := by
    by_cases h : i < 3
    · simp [phaseOf, h, Nat.lt_trans h]
    · simp [phaseOf, h]
  simp only [statusByte, BitVec.getLsbD_or, getLsbD_flag, phase, Bool.decide_eq_true]

/-- Settles O16: the byte answered is the status byte, and each line of the phase is one of its bits. -/
theorem statusReadComposes : Obligations.StatusReadComposes := by
  intro s live
  have msg : asserted (busCtrl s) lineMsg = (busCtrl s).getLsbD 2 := asserted_twoPow (i := 2) _ (by decide)
  have cd : asserted (busCtrl s) lineCd = (busCtrl s).getLsbD 1 := asserted_twoPow (i := 1) _ (by decide)
  have io : asserted (busCtrl s) lineIo = (busCtrl s).getLsbD 0 := asserted_twoPow (i := 0) _ (by decide)
  have int : decide (s.params.variant ≠ .ncr5390 ∧ s.irq = true) = (s.irq && s.params.variant != .ncr5390) := by
    rw [Bool.eq_iff_iff]
    simp [and_comm]
  refine ⟨statusByte s, by simp only [exec]; exact event_read live, ?_⟩
  simp only [getLsbD_statusByte, msg, cd, io, int]
  simp

/-! ### The interrupt-status read -/

/-- What the read clears, in an event that has put nothing out: IRQ goes down, with an edge if it was up (R480). -/
theorem istatusClear_quiet {s : State} (quiet : s.notices = []) : istatusClear s = { s with
    notices := if s.irq then [.irq false] else []
    istatus := 0x00#8, irq := false, seq := 0#3, ge := false, pe := false } := by
  cases up : s.irq <;> simp [istatusClear, updateIrq, irqLevel, quiet, up]

/-- A chained command starts as its byte would, written into the queue the pop has emptied (R320, R300). -/
theorem popAndChain_chains {s : State} (h : s.cmdCount = 2) :
    popAndChain s = commandWrite s.command1 { s with cmdCount := 0 } :=
  (if_pos h).trans (commandWrite_empty (s := { s with cmdCount := 0 }) rfl).symm

/-- Settles O17: no cause, no pop; otherwise the last command is popped, or the second of two starts. -/
theorem istatusReadClearsAndChains : Obligations.IstatusReadClearsAndChains := by
  intro s live cleared
  have clears : istatusClear { s with notices := [] } = cleared := istatusClear_quiet rfl
  have read : exec .rdIstat s = .next (answer s.istatus (istatusRead { s with notices := [] })) := by
    simp only [exec]
    exact event_live live
  rw [read]
  refine ⟨fun quiet => ?_, fun cause single => ?_, fun cause double => ?_⟩
  · rw [istatusRead, if_pos quiet, clears, quiet]
    exact congrArg _ (answer_live _ live)
  · rw [istatusRead, if_neg cause, clears, popAndChain, if_neg single]
    exact congrArg _ (answer_live _ live)
  · rw [istatusRead, if_neg cause, clears, popAndChain_chains (s := cleared) double]

end Sys2Proof.Machine

/-! The bus reset (70): the soft reset and its cause, which a second one leaves as they are. -/

namespace Sys2Proof.Machine

/-- The response to RST field by field (R572, R573). -/
theorem busReset_eq (s : State) : ∃ n, busReset s = { s with
    notices := n
    cmdCount := 0, dmaCommand := false, testMode := false, mode := .disconnected, coarse := .idle, sub := none
    dmaDir := .off, commandLength := 0, drq := false, timer := none, ctrlDrive := 0#9, dataDrive := 0x00#8
    istatus := if s.config.getLsbD 6 then s.istatus else s.istatus ||| 0x80#8
    irq := if s.config.getLsbD 6 then s.istatus != 0x00#8 else true } := by
  unfold busReset
  split
  · exact ⟨_, softReset_eq s⟩
  · rw [setCause_eq (by decide), softReset_eq]
    exact ⟨_, rfl⟩

/-- A soft reset that finds nothing to reset changes nothing, and puts nothing out (R572, R531, R535). -/
theorem softReset_settled {s : State} (reset : { s with
      cmdCount := 0, dmaCommand := false, testMode := false, mode := .disconnected, coarse := .idle, sub := none
      dmaDir := .off, commandLength := 0, timer := none, ctrlDrive := 0#9, dataDrive := 0x00#8 } = s)
    (drq : s.drq = drqLevel s) (irq : s.irq = irqLevel s) : softReset s = s := by
  simp only [softReset, driveData, driveCtrl, drive_release_all]
  rw [reset, updateDrq_settled drq, updateIrq_settled irq]

/-- A cause already latched is latched again with no edge (R530, R531). -/
theorem setCause_settled {s : State} {c : Byte} (cause : s.istatus ||| c = s.istatus) (irq : s.irq = irqLevel s) :
    setCause c s = s := by
  rw [setCause, cause]
  exact updateIrq_settled irq

/-- Settles O50: what the response leaves has nothing to reset, and SR is latched already where it is enabled. -/
theorem busResetResponse : Obligations.BusResetResponse := by
  intro s
  obtain ⟨n, done⟩ := busReset_eq s
  refine ⟨⟨n, done⟩, ?_⟩
  have config : (busReset s).config = s.config := by rw [done]
  have irq : (busReset s).irq = irqLevel (busReset s) := by
    rw [done, irqLevel]
    split
    · rfl
    · exact (or_cause_ne _ _ (by decide)).symm
  have settled : softReset (busReset s) = busReset s := by
    rw [done] at irq ⊢
    exact softReset_settled rfl rfl irq
  rw [busReset, settled, config]
  split
  next => rfl
  next enabled =>
    refine setCause_settled ?_ irq
    simp only [done, if_neg enabled, causeSr, BitVec.or_assoc, BitVec.or_self]

end Sys2Proof.Machine

/-! A stuck device (60) and the device at power-on (70). -/

namespace Sys2Proof.Machine

/-- A step on a stuck device answers its fault, whatever event is the oldest (R52). -/
theorem step_faulted {s : State} {k : Fault} (h : s.fault = some k) : step s = .fault k := by
  unfold step
  split
  next => simp only [runIdle, h]
  next e rest _ =>
    cases e with
    | access a =>
      simp only [runEvent]
      split
      next i _ =>
        obtain ⟨f, event_of⟩ := exec_isEvent i
        exact (event_of _).trans (event_faulted h)
      next => exact event_faulted h
    | bus c b => exact event_faulted h
    | timer => exact event_faulted h

/-- Settles O7: every instruction is one event, and no event runs on a stuck device. -/
theorem faultedDeviceIsStuck : Obligations.FaultedDeviceIsStuck := by
  intro s k h
  refine ⟨fun i => ?_, step_faulted h⟩
  obtain ⟨f, event_of⟩ := exec_isEvent i
  exact (event_of s).trans (event_faulted h)

/-- Settles O52: each value is the one `State.reset` is written with. -/
theorem powerOnValues : Obligations.PowerOnValues := by
  unfold Obligations.PowerOnValues
  decide

/-- Settles O53: nothing is queued, driven, latched or armed at power-on, and the sequencer is idle. -/
theorem soundAtReset : Obligations.SoundAtReset :=
  { fifoBound := Nat.zero_le _
    irqFollows := rfl
    drqFollows := rfl
    drivesOwnLines := rfl
    notTarget := nofun
    noTargetCause := rfl
    noParityError := rfl
    seqBound := Nat.zero_le _
    lengthBound := Nat.zero_le _
    position := nofun
    arbitrationMode := nofun
    disconnectedQuiet := fun _ => .inl rfl
    timerArmed := nofun
    noQueuedReset := nofun }

end Sys2Proof.Machine

/-! The whole machine: the invariant in two halves, what every operation keeps of the registers, one inversion of the
step; and from them that the causes persist and the configuration survives. -/

namespace Sys2Proof.Machine

/-! ### The invariant in two halves -/

/-- The half of `Sound` about registers, flags and drives: which place the sequencer is in does not matter to it. -/
structure Regular (s : State) : Prop where
  fifoBound : s.fifo.length ≤ 16
  irqFollows : s.irq = irqLevel s
  drqFollows : s.drq = drqLevel s
  drivesOwnLines : s.ctrlDrive &&& neverDriven = 0#9
  notTarget : s.mode ≠ .target
  noTargetCause : s.istatus &&& 0x07#8 = 0x00#8
  noParityError : s.pe = false
  seqBound : s.seq.toNat ≤ 4
  lengthBound : s.commandLength ≤ 16 + 65535
  noQueuedReset : s.cmdCount = 2 → isResetByte s.command1 = false

/-- The half of `Sound` about the place of the sequencer, but for its timer. -/
structure Placed (s : State) : Prop where
  position : ∀ u, s.sub = some u → u.runsOn s.coarse = true
  arbitrationMode : ∀ u, s.sub = some u → u.isArbitration = true → s.mode = .disconnected
  disconnectedQuiet : s.mode = .disconnected → s.coarse = .idle ∨ ∃ u, s.sub = some u ∧ u.isArbitration = true

/-- With the timer, which an expiry has just disarmed where the sequencer takes it (R210, R267). -/
structure Ready (s : State) : Prop extends Placed s where
  timerArmed : s.fault = none → ∀ u, s.sub = some u → u.waitsForTimer = true → s.timer.isSome = true

theorem sound_iff {s : State} : Sound s ↔ Regular s ∧ Ready s := by
  constructor
  · intro h
    exact ⟨{ h with drqFollows := h.drqFollows.trans (drqLevel_eq s).symm }, { h with }⟩
  · rintro ⟨h, p⟩
    exact { h, p with drqFollows := h.drqFollows.trans (drqLevel_eq s) }

/-! ### What every operation keeps -/

/-- What the operations of the sequencer and the commands write with care: `s` with every other field put back to its
reset value. No whole-machine rule but that of the sequencer's place speaks of the fields put back. -/
def guarded (s : State) : State :=
  { s with
    command0 := 0x00#8, dmaCommand := false, testMode := false, tcounter := 0#16, coarse := .idle, sub := none
    xfrPhase := 0#3, timer := none, dataDrive := 0x00#8, fault := none, envCtrl := 0#9, envData := 0x00#8
    readData := 0x00#8, notices := [], draws := 0, events := [] }

/-- The parameters, the configuration and the timing registers (R34 to R40, R6), every other field at its reset
value. -/
def configuration (s : State) : State :=
  { State.reset with
    params := s.params, config := s.config, ownId := s.ownId, config2 := s.config2, config3 := s.config3
    fifoAlign := s.fifoAlign, testReg := s.testReg, destId := s.destId, selectTimeout := s.selectTimeout
    clockConv := s.clockConv, syncPeriod := s.syncPeriod, syncOffset := s.syncOffset, tcount := s.tcount }

/-- What every change keeps but the read that clears the causes and the reset that clears them: the registers' half of
`Sound`, the causes and GE once latched (R42, R521, R532), the parameters. -/
structure Orderly (s t : State) : Prop where
  regular : Regular s → Regular t
  causes : s.istatus &&& t.istatus = s.istatus
  grossError : s.ge = true → t.ge = true
  params : t.params = s.params

/-- An orderly change that is no write of a configuration register either. -/
structure Lawful (s t : State) : Prop extends Orderly s t where
  configuration : configuration t = configuration s

section
variable {s t u : State}

theorem Orderly.trans (h : Orderly s t) (h' : Orderly t u) : Orderly s u where
  regular := h'.regular ∘ h.regular
  causes := by
    calc s.istatus &&& u.istatus = s.istatus &&& (t.istatus &&& u.istatus) := by rw [← BitVec.and_assoc, h.causes]
      _ = s.istatus := by rw [h'.causes, h.causes]
  grossError := h'.grossError ∘ h.grossError
  params := h'.params.trans h.params

theorem Lawful.trans (h : Lawful s t) (h' : Lawful t u) : Lawful s u where
  toOrderly := h.toOrderly.trans h'.toOrderly
  configuration := h'.configuration.trans h.configuration

theorem regular_guarded : Regular (guarded s) ↔ Regular s := ⟨fun h => { h with }, fun h => { h with }⟩

/-- A change of other fields is lawful. -/
theorem lawful_of_guarded (e : guarded t = guarded s) : Lawful s t where
  regular := by rw [← regular_guarded, ← e, regular_guarded]; exact id
  causes := by
    have same : t.istatus = s.istatus := (congrArg State.istatus e :)
    rw [same, BitVec.and_self]
  grossError := ((congrArg State.ge e :) : t.ge = s.ge) ▸ id
  params := (congrArg State.params e :)
  configuration := (congrArg Machine.configuration e :)

@[simp] theorem Lawful.refl (s : State) : Lawful s s := lawful_of_guarded rfl

/-- Of two states that differ in other fields only, a change leads to both. -/
theorem lawful_congr (e : guarded u = guarded t) : Lawful s u ↔ Lawful s t :=
  ⟨fun h => h.trans (lawful_of_guarded e.symm), fun h => h.trans (lawful_of_guarded e)⟩

@[simp] theorem lawful_driveData {b : Byte} : Lawful s (driveData b t) ↔ Lawful s t := lawful_congr rfl
@[simp] theorem lawful_delay {n : Nat} : Lawful s (delay n t) ↔ Lawful s t := lawful_congr rfl
@[simp] theorem lawful_raise {k : Fault} : Lawful s (raise k t) ↔ Lawful s t := lawful_congr rfl
@[simp] theorem lawful_goSub {v : Sub} : Lawful s (goSub v t) ↔ Lawful s t := lawful_congr rfl
@[simp] theorem lawful_endSub : Lawful s (endSub t) ↔ Lawful s t := lawful_congr rfl
@[simp] theorem lawful_goCoarse {c : Coarse} : Lawful s (goCoarse c t) ↔ Lawful s t := lawful_congr rfl
@[simp] theorem lawful_goIdle : Lawful s (goIdle t) ↔ Lawful s t := lawful_congr rfl
@[simp] theorem lawful_recvByte : Lawful s (recvByte t).1 ↔ Lawful s t := lawful_congr rfl
@[simp] theorem lawful_answer {b : Byte} : Lawful s (answer b t) ↔ Lawful s t := by
  rw [answer_eq]
  exact lawful_congr rfl

/-- A masked drive of own lines keeps the others undriven. -/
theorem drives_masked {w : Nat} {c v m n : BitVec w} (hc : c &&& n = 0#w) (hv : v &&& n = 0#w) :
    (c &&& ~~~m ||| v &&& m) &&& n = 0#w := by
  have swap (x y : BitVec w) : x &&& y &&& n = x &&& n &&& y := by
    rw [BitVec.and_assoc, BitVec.and_comm y, ← BitVec.and_assoc]
  rw [BitVec.and_or_distrib_right, swap, swap, hc, hv]
  simp

/-- The lines the rules assert are the initiator's own (R203). -/
@[simp] theorem lineBsy_own : lineBsy &&& neverDriven = 0#9 := by decide
@[simp] theorem lineSel_own : lineSel &&& neverDriven = 0#9 := by decide
@[simp] theorem lineAck_own : lineAck &&& neverDriven = 0#9 := by decide
@[simp] theorem lineAtn_own : lineAtn &&& neverDriven = 0#9 := by decide

/-- A drive of own lines is lawful. -/
@[simp] theorem lawful_driveCtrl {v m : Lines} (h : Lawful s t) (hv : v &&& neverDriven = 0#9) :
    Lawful s (driveCtrl v m t) :=
  h.trans { Lawful.refl t with
    regular := fun r => { r with drivesOwnLines := drives_masked r.drivesOwnLines hv } }

/-- DRQ derived again after a change of what it is derived from (R535), within the FIFO's bound. -/
theorem lawful_updateDrq
    (e : guarded { t with fifo := s.fifo, dmaDir := s.dmaDir, tc := s.tc, drq := s.drq } = guarded s)
    (bound : s.fifo.length ≤ 16 → t.fifo.length ≤ 16) : Lawful s (updateDrq t) := by
  have h := lawful_of_guarded e
  exact { h with regular := fun r => { h.regular r with fifoBound := bound r.fifoBound, drqFollows := rfl } }

/-- IRQ derived again after a change of the causes (R531) that keeps those latched and adds none of a target's. -/
theorem lawful_updateIrq (e : guarded { t with istatus := s.istatus, irq := s.irq } = guarded s)
    (latched : s.istatus &&& t.istatus = s.istatus)
    (noTarget : s.istatus &&& 0x07#8 = 0x00#8 → t.istatus &&& 0x07#8 = 0x00#8) : Lawful s (updateIrq t) := by
  have h := lawful_of_guarded e
  exact { h with
    regular := fun r => { h.regular r with noTargetCause := noTarget r.noTargetCause, irqFollows := rfl }
    causes := latched }

/-! ### The shared operations -/

/-- A cause with none of a target's bits is latched lawfully (R530). -/
@[simp] theorem lawful_setCause {c : Byte} (h : Lawful s t) (hc : c &&& 0x07#8 = 0x00#8) :
    Lawful s (setCause c t) := by
  refine h.trans (lawful_updateIrq rfl ?_ fun none => ?_)
  · apply BitVec.eq_of_getLsbD_eq
    intro i _
    simp only [BitVec.getLsbD_and, BitVec.getLsbD_or]
    cases t.istatus.getLsbD i <;> rfl
  · rw [BitVec.and_or_distrib_right, none, hc, BitVec.or_self]

@[simp] theorem causeIll_own : causeIll &&& 0x07#8 = 0x00#8 := by decide
@[simp] theorem causeDis_own : causeDis &&& 0x07#8 = 0x00#8 := by decide
@[simp] theorem causeSr_own : causeSr &&& 0x07#8 = 0x00#8 := by decide
@[simp] theorem causeFc_own : causeFc &&& 0x07#8 = 0x00#8 := by decide
@[simp] theorem causeBs_own : causeBs &&& 0x07#8 = 0x00#8 := by decide
@[simp] theorem selTimeoutCause_own : selTimeoutCause s &&& 0x07#8 = 0x00#8 := by
  unfold selTimeoutCause
  split <;> simp

@[simp] theorem lawful_fifoPush {b : Byte} (h : Lawful s t) : Lawful s (fifoPush b t) := by
  refine h.trans (lawful_updateDrq rfl fun bound => ?_)
  simp only [Config.fifoDepth]
  split
  · simpa using ‹_›
  · exact bound

@[simp] theorem lawful_fifoPop (h : Lawful s t) : Lawful s (fifoPop t) := by
  refine h.trans (lawful_updateDrq rfl fun bound => ?_)
  simp only [List.length_tail]
  omega

@[simp] theorem lawful_fifoFlush (h : Lawful s t) : Lawful s (fifoFlush t) :=
  h.trans (lawful_updateDrq rfl fun _ => Nat.zero_le _)

@[simp] theorem lawful_decrementTcounter (h : Lawful s t) : Lawful s (decrementTcounter t) := by
  unfold decrementTcounter
  split
  · exact h.trans (lawful_updateDrq rfl id)
  · exact h

@[simp] theorem lawful_dmaReload (h : Lawful s t) : Lawful s (dmaReload t) := by
  unfold dmaReload
  split <;> exact h.trans (lawful_updateDrq rfl id)

@[simp] theorem lawful_functionComplete (h : Lawful s t) : Lawful s (functionComplete t) :=
  (lawful_setCause (lawful_goIdle.mpr h) causeFc_own).trans (lawful_updateDrq rfl id)

@[simp] theorem lawful_busComplete (h : Lawful s t) : Lawful s (busComplete t) :=
  (lawful_setCause (lawful_goIdle.mpr h) causeBs_own).trans (lawful_updateDrq rfl id)

theorem lawful_setMode {m : Mode} (hm : m ≠ .target) : Lawful s { s with mode := m } :=
  { Lawful.refl s with regular := fun r => { r with notTarget := hm } }

theorem lawful_setQueue {n : Fin 3} {v : Byte}
    (hv : (s.cmdCount = 2 → isResetByte s.command1 = false) → n = 2 → isResetByte v = false) :
    Lawful s { s with cmdCount := n, command1 := v } :=
  { Lawful.refl s with regular := fun r => { r with noQueuedReset := hv r.noQueuedReset } }

/-- A queue that is not full holds no reset byte back. -/
theorem lawful_shortenQueue {n : Fin 3} (hn : n ≠ 2) : Lawful s { s with cmdCount := n } :=
  lawful_setQueue fun _ full => absurd full hn

/-- The progress of a selection is lawful within the bounds of R43 and R48. -/
theorem lawful_setProgress {q : BitVec 3} {n : Nat} (hq : s.seq.toNat ≤ 4 → q.toNat ≤ 4)
    (hn : s.fifo.length ≤ 16 → s.commandLength ≤ 16 + 65535 → n ≤ 16 + 65535) :
    Lawful s { s with seq := q, commandLength := n } :=
  { Lawful.refl s with
    regular := fun r => { r with seqBound := hq r.seqBound, lengthBound := hn r.fifoBound r.lengthBound } }

theorem lawful_released : Lawful s (driveData 0x00#8 (driveCtrl 0#9 allLines s)) := by simp

@[simp] theorem lawful_resetDisconnect (h : Lawful s t) : Lawful s (resetDisconnect t) :=
  h.trans <| lawful_released.trans <| (lawful_setMode (m := .disconnected) nofun).trans <|
    (lawful_shortenQueue (n := 0) nofun).trans (lawful_updateDrq rfl id)

/-- A soft reset (R572): its own values are within every bound, and it leaves causes and configuration. -/
@[simp] theorem lawful_softReset (h : Lawful s t) : Lawful s (softReset t) :=
  h.trans
    { regular := fun r => by
        rw [softReset_eq]
        exact { r with irqFollows := rfl, drqFollows := rfl, drivesOwnLines := BitVec.zero_and, notTarget := nofun,
                       lengthBound := Nat.zero_le _, noQueuedReset := nofun }
      causes := by simp
      grossError := by simp
      params := softReset_params t
      configuration := by simp [configuration] }

/-- The answer to RST on the bus (R573). -/
theorem lawful_busReset (h : Lawful s t) : Lawful s (busReset t) := by
  unfold busReset
  split <;> simp [h]

/-! ### The handlers -/

@[simp] theorem lawful_sendByte (h : Lawful s t) : Lawful s (sendByte t).1 := by
  unfold sendByte
  simp only [halt]
  split_ifs <;> simp [h]

/-- A handler that waits for elapsed time is lawful where its act is (R231). -/
theorem lawful_onTimeout {r : Reason} {act : State → Micro} (h : Lawful s (act s).1) :
    Lawful s (onTimeout r act s).1 := by
  cases r with
  | timeout => exact h
  | signal => exact Lawful.refl s

/-- Every micro-step is lawful (R250 to R266). -/
theorem lawful_dispatchSub (v : Sub) (r : Reason) (ctrl : Lines) (data : Byte) (s : State) :
    Lawful s (dispatchSub v r ctrl data s).1 := by
  cases v with
  | arbComplete =>
    refine lawful_onTimeout ?_
    unfold arbComplete
    split <;> simp [halt]
  | arbAssertSel | sendWaitSettle => exact lawful_onTimeout (by simp [arbAssertSel, sendWaitSettle, halt, stepAgain])
  | arbSetDest =>
    refine lawful_onTimeout ?_
    simp only [arbSetDest, halt]
    split <;> simp
  | arbReleaseBusy =>
    refine lawful_onTimeout ?_
    unfold arbReleaseBusy
    split <;> simp [arbDeskew, halt]
  | arbTimeoutBusy =>
    cases r with
    | timeout => simp [dispatchSub, arbTimeoutBusy, halt]
    | signal =>
      simp only [dispatchSub, arbTimeoutBusy]
      split <;> simp [arbDeskew, halt]
  | arbTimeoutAbort =>
    refine lawful_onTimeout ?_
    unfold arbTimeoutAbort
    split
    · simp [arbDeskew, halt]
    · exact lawful_resetDisconnect (lawful_setCause (by simp) selTimeoutCause_own)
  | arbDeskewWait => exact lawful_onTimeout (lawful_endSub.mpr (Lawful.trans (by simp) (lawful_setMode nofun)))
  | recvWaitSettle =>
    refine lawful_onTimeout ?_
    simp only [recvWaitSettle, stepAgain]
    split <;> simp
  | sendWaitReq0 | recvWaitReq1 | recvWaitReq0 =>
    simp only [dispatchSub, sendWaitReq0, recvWaitReq1, recvWaitReq0]
    split <;> simp [halt, stepAgain]

/-- A selection fixes at most what the FIFO and the counter hold (R372, R48). -/
theorem lawful_discSelArbitrationInit : Lawful s (discSelArbitrationInit s).1 := by
  unfold discSelArbitrationInit
  split
  · exact Lawful.refl s
  · refine lawful_goCoarse.mpr (lawful_setProgress id fun bound _ => ?_)
    have count := s.tcounter.isLt
    split <;> omega

/-- The message byte of a selection is sent from the FIFO, with ATN released or held (R374). -/
theorem lawful_discSelAtnWaitReq (ctrl : Lines) : Lawful s (discSelAtnWaitReq ctrl s).1 := by
  unfold discSelAtnWaitReq
  split_ifs <;> simp [halt]

theorem lawful_discSelAtnSendByte : Lawful s (discSelAtnSendByte s).1 := by
  have shorter : s.commandLength - 1 ≤ s.commandLength := Nat.sub_le _ _
  unfold discSelAtnSendByte
  simp only
  split
  · exact lawful_functionComplete (lawful_setProgress (fun _ => by decide) fun _ => shorter.trans)
  · exact lawful_goCoarse.mpr (lawful_setProgress id fun _ => shorter.trans)

/-- The sequence step of a selection's end is 2, 3 or 4 (R376). -/
theorem selectionEndSeq_le (s : State) : (selectionEndSeq s).toNat ≤ 4 := by
  unfold selectionEndSeq
  split_ifs <;> decide

theorem lawful_discSelWaitReq (ctrl : Lines) : Lawful s (discSelWaitReq ctrl s).1 := by
  unfold discSelWaitReq
  split_ifs
  · exact Lawful.refl s
  · exact lawful_functionComplete (lawful_setProgress (fun _ => selectionEndSeq_le s) fun _ => id)
  · exact Lawful.refl s
  · exact lawful_sendByte (lawful_goCoarse.mpr (lawful_setProgress (fun _ => by decide) fun _ => id))
  · exact lawful_sendByte (lawful_goCoarse.mpr (lawful_setProgress id fun _ => id))

theorem lawful_discSelSendByte : Lawful s (discSelSendByte s).1 := by
  refine lawful_goCoarse.mpr (lawful_setProgress (fun bound => ?_) fun _ => (Nat.sub_le _ _).trans)
  split
  · decide
  · exact bound

theorem lawful_initXfr : Lawful s (initXfr s).1 := by
  unfold initXfr
  split_ifs <;> simp [halt]

/-- ACK is released after every pad byte, the last one too (R423). -/
theorem lawful_initXfrRecvPad : Lawful s (initXfrRecvPad s).1 := by
  have released : Lawful s (driveCtrl 0#9 lineAck (decrementTcounter s)) := by simp
  unfold initXfrRecvPad
  simp only
  split
  · exact lawful_functionComplete released
  · exact lawful_goCoarse.mpr released

/-- Every coarse handler is lawful (R372 to R423). -/
theorem lawful_dispatchCoarse (c : Coarse) (ctrl : Lines) (s : State) : Lawful s (dispatchCoarse c ctrl s).1 := by
  cases c with
  | discSelArbitrationInit => exact lawful_discSelArbitrationInit
  | discSelAtnWaitReq => exact lawful_discSelAtnWaitReq ctrl
  | discSelAtnSendByte => exact lawful_discSelAtnSendByte
  | discSelWaitReq => exact lawful_discSelWaitReq ctrl
  | discSelSendByte => exact lawful_discSelSendByte
  | initXfr => exact lawful_initXfr
  | initXfrRecvPad => exact lawful_initXfrRecvPad
  | idle | initXfrSendByte | initXfrRecvByteAck | initXfrRecvByteNack | initCptRecvByteAck | initCptRecvByteNack =>
    simp [dispatchCoarse, halt, stepAgain, initXfrSendByte, initXfrRecvByteAck, initXfrRecvByteNack,
      initCptRecvByteAck, initCptRecvByteNack]
  | discSelArbitration | initXfrWaitReq | initXfrFunctionComplete | initXfrBusComplete | initCptRecvWaitReq
  | initMsgWaitReq | initXfrSendPadWaitReq | initXfrSendPad | initXfrRecvPadWaitReq =>
    simp only [dispatchCoarse, discSelArbitration, initXfrWaitReq, initXfrFunctionComplete, initXfrBusComplete,
      initCptRecvWaitReq, initMsgWaitReq, initXfrSendPadWaitReq, initXfrSendPad, initXfrRecvPadWaitReq, halt,
      stepAgain]
    split_ifs <;> simp

theorem lawful_stepOnce (r : Reason) (s : State) : Lawful s (stepOnce r s).1 := by
  by_cases hc : connected s
  · cases hs : s.sub with
    | some u =>
      rw [stepOnce_sub hc hs]
      exact lawful_dispatchSub u r _ _ s
    | none =>
      rw [stepOnce_coarse hc hs]
      exact lawful_dispatchCoarse _ _ s
  · rw [stepOnce_released hc]
    simp

/-- The whole chain is lawful (R231). -/
@[simp] theorem lawful_seqStep {r : Reason} (h : Lawful s t) : Lawful s (seqStep r t) :=
  seqStep_keeps (P := Lawful s) (fun r _ h => h.trans (lawful_stepOnce r _)) (fun _ => lawful_raise.mpr) h r

/-! ### The commands -/

theorem lawful_popLast : Lawful s (popLast s) := lawful_shortenQueue nofun

theorem lawful_beginSelection : Lawful s (beginSelection s) := by
  have started : Lawful s (updateDrq { s with
      seq := 0#3, coarse := .discSelArbitrationInit, sub := none
      dmaDir := if s.dmaCommand then .outward else .off }) :=
    (lawful_setProgress (q := 0#3) (fun _ => by decide) fun _ => id).trans (lawful_updateDrq rfl id)
  exact lawful_delay.mpr (lawful_driveCtrl (lawful_driveData.mpr (lawful_goSub.mpr started)) lineBsy_own)

/-- Every command but RESET starts lawfully. -/
theorem lawful_commandRule {k : Cmd} (hk : k ≠ .reset) : Lawful s (commandRule k s).1 := by
  cases k with
  | reset => exact absurd rfl hk
  | nop | flush | setatn | resetatn | ensel | dissel =>
    simp [commandRule, startNop, startFlush, startSetatn, startResetatn, startEnsel, startDissel, popsItself]
  | resetbus =>
    simp only [commandRule, startResetbus, runs]
    split
    · exact (lawful_softReset (Lawful.refl s)).trans (lawful_of_guarded rfl)
    · exact lawful_softReset (Lawful.refl s)
  | select | selatn | selatnstop => exact lawful_beginSelection
  | xfer =>
    have requested : Lawful s (updateDrq { s with
        xfrPhase := phaseOf (busCtrl s), dmaDir := transferDir s (phaseOf (busCtrl s)) }) := lawful_updateDrq rfl id
    exact lawful_seqStep (requested.trans (lawful_of_guarded rfl))
  | iccs => exact lawful_seqStep (lawful_of_guarded rfl)
  | msgacc =>
    have released : Lawful s (driveCtrl 0#9 lineAck { s with seq := 0#3 }) :=
      lawful_driveCtrl (lawful_setProgress (fun _ => by decide) fun _ => id) BitVec.zero_and
    exact lawful_seqStep (released.trans (lawful_of_guarded rfl))
  | pad =>
    have released : Lawful s (driveCtrl 0#9 lineAck (updateDrq { s with
        xfrPhase := phaseOf (busCtrl s), dmaDir := .off })) :=
      lawful_driveCtrl (lawful_updateDrq rfl id) BitVec.zero_and
    exact lawful_seqStep (released.trans (lawful_of_guarded rfl))
  | cmd04 | sendmsg | sendstatus | senddata | discseq | termseq | tccs | disconnect | recvmsg | recvcmd | recvdata
  | recvcmdseq | reselect | selatn3 => exact lawful_raise.mpr (Lawful.refl s)

/-- A code in slot 0 other than RESET's starts lawfully, valid or not (R304, R308). -/
theorem lawful_startOnly (hr : cmdCode s.command0 ≠ Cmd.reset.code) : Lawful s (startOnly s) := by
  cases hv : commandValid s.params.variant s.mode (cmdCode s.command0) with
  | true =>
    obtain ⟨k, hk, code, -⟩ := (validCodesHaveACommand _ _ _).2 hv
    have runs : Lawful s (commandRule k (dmaReload s)).1 :=
      (lawful_dmaReload (Lawful.refl s)).trans (lawful_commandRule fun reset => hr (reset ▸ code.symm))
    rw [startOnly_valid hk (code ▸ hv), settled]
    split
    · exact runs.trans lawful_popLast
    · exact runs
  | false =>
    rw [startOnly_invalid hv]
    simp

/-- RESET in slot 0 resets, in every mode (R344). -/
theorem startOnly_hardReset (hr : cmdCode s.command0 = Cmd.reset.code) :
    startOnly s = hardReset (dmaReload s) :=
  startOnly_valid (k := .reset) (hr ▸ decodeCmd_code .reset) (valid_group0 (by decide))

/-- A byte that becomes the only command in the queue is lawful there. -/
theorem lawful_accept (v : Byte) : Lawful s { s with command0 := v, cmdCount := 1 } :=
  (lawful_shortenQueue (n := 1) nofun).trans (lawful_of_guarded rfl)

/-- A command byte other than RESET's is written lawfully (R300 to R302). -/
theorem lawful_commandWrite {v : Byte} (hr : cmdCode v ≠ Cmd.reset.code) : Lawful s (commandWrite v s) := by
  have starts : Lawful s (startOnly { s with command0 := v, cmdCount := 1 }) :=
    (lawful_accept v).trans (lawful_startOnly hr)
  cases hv : isResetByte v with
  | true => rwa [commandWrite_reset hv]
  | false =>
    have counts : ∀ n : Fin 3, n = 0 ∨ n = 1 ∨ n = 2 := by decide
    rcases counts s.cmdCount with empty | one | full
    · rwa [commandWrite_empty empty]
    · rw [commandWrite_behind hv one]
      exact lawful_setQueue fun _ _ => hv
    · rw [commandWrite_full hv full]
      exact { Lawful.refl s with regular := fun r => { r with }, grossError := fun _ => rfl }

/-- RESET's byte resets, whatever is queued (R301, R344). -/
theorem commandWrite_hardReset {v : Byte} (hr : cmdCode v = Cmd.reset.code) :
    commandWrite v s = hardReset (dmaReload { s with command0 := v, cmdCount := 1 }) := by
  have reset : isResetByte v = true := by simp [isResetByte, hr]
  rw [commandWrite_reset reset, startOnly_hardReset hr]

/-- The values of a hard reset are within every bound, whatever the causes were (R570). -/
theorem regular_hardReset (s : State) : Regular (hardReset s) := by
  rw [hardReset_eq]
  exact {
    fifoBound := Nat.zero_le _, irqFollows := rfl, drqFollows := rfl, drivesOwnLines := BitVec.zero_and
    notTarget := nofun, noTargetCause := BitVec.zero_and, noParityError := rfl, seqBound := Nat.zero_le _
    lengthBound := Nat.zero_le _, noQueuedReset := nofun }

/-- Every command byte keeps the registers' half of the invariant. -/
theorem regular_commandWrite (v : Byte) (h : Regular s) : Regular (commandWrite v s) := by
  by_cases hr : cmdCode v = Cmd.reset.code
  · rw [commandWrite_hardReset hr]
    exact regular_hardReset _
  · exact (lawful_commandWrite hr).regular h

theorem params_commandWrite (v : Byte) (s : State) : (commandWrite v s).params = s.params := by
  by_cases hr : cmdCode v = Cmd.reset.code
  · rw [commandWrite_hardReset hr]
    simp
  · exact (lawful_commandWrite hr).params

/-! ### The interrupt-status read -/

/-- The read starts the command queued, as its byte would, or starts none (R480, R320). -/
theorem istatusRead_cases (s : State) : istatusRead s = istatusClear s ∨ istatusRead s = popLast (istatusClear s) ∨
    (s.cmdCount = 2 ∧ istatusRead s = commandWrite s.command1 { istatusClear s with cmdCount := 0 }) := by
  unfold istatusRead
  split
  · exact .inl rfl
  · by_cases full : s.cmdCount = 2
    · exact .inr (.inr ⟨full, popAndChain_chains (s := istatusClear s) full⟩)
    · exact .inr (.inl (if_neg full))

theorem regular_istatusClear (h : Regular s) : Regular (istatusClear s) :=
  { h with irqFollows := rfl, noTargetCause := BitVec.zero_and, noParityError := rfl, seqBound := Nat.zero_le _ }

theorem regular_istatusRead (h : Regular s) : Regular (istatusRead s) := by
  have cleared := regular_istatusClear h
  rcases istatusRead_cases s with run | run | ⟨-, run⟩ <;> rw [run]
  · exact cleared
  · exact lawful_popLast.regular cleared
  · exact regular_commandWrite _ ((lawful_shortenQueue (n := 0) nofun).regular cleared)

theorem params_istatusRead (s : State) : (istatusRead s).params = s.params := by
  rcases istatusRead_cases s with run | run | ⟨-, run⟩ <;> rw [run]
  · rfl
  · rfl
  · exact params_commandWrite _ _

/-- The read keeps the configuration where no reset byte is queued (R301). -/
theorem configuration_istatusRead (noReset : s.cmdCount = 2 → isResetByte s.command1 = false) :
    configuration (istatusRead s) = configuration s := by
  rcases istatusRead_cases s with run | run | ⟨full, run⟩ <;> rw [run]
  · rfl
  · rfl
  · refine (lawful_commandWrite fun reset => ?_).configuration
    simpa [isResetByte, reset] using noReset full

/-! ### What a step does -/

/-- The sequencer is left in its place, its timer as it was, and no fault is cleared. -/
structure InPlace (s t : State) : Prop where
  coarse : t.coarse = s.coarse
  sub : t.sub = s.sub
  mode : t.mode = s.mode
  timer : t.timer = s.timer
  fault : t.fault = none → s.fault = none

/-- A lawful change that leaves the sequencer in its place. -/
structure Left (s t : State) : Prop where
  lawful : Lawful s t
  place : InPlace s t

theorem InPlace.trans (h : InPlace s t) (h' : InPlace t u) : InPlace s u where
  coarse := h'.coarse.trans h.coarse
  sub := h'.sub.trans h.sub
  mode := h'.mode.trans h.mode
  timer := h'.timer.trans h.timer
  fault := h.fault ∘ h'.fault

theorem Left.trans (h : Left s t) (h' : Left t u) : Left s u := ⟨h.lawful.trans h'.lawful, h.place.trans h'.place⟩

/-- The write of a configuration register: orderly, and the sequencer is left in its place. -/
structure SetsRegister (s t : State) : Prop where
  orderly : Orderly s t
  place : InPlace s t

/-- What a step may do, in full: leave the sequencer in its place; write a register besides; write a command byte; read
the interrupt status; run the sequencer for a change or for an expiry; or see RST on the bus and reset. -/
inductive Happening (s t : State) : Prop
  | leaves (left : Left s t)
  | setsRegister (sets : SetsRegister s t) (off : Offset) (v : Byte) (rest : List Event)
      (event : s.events = .access (.regWrite off v) :: rest) (notFifo : off ≠ 0x2#4) (notCommand : off ≠ 0x3#4)
  | writesCommand (rest : List Event) (v : Byte) (run : t = commandWrite v (begun rest s))
      (event : s.events = .access (.cmd v) :: rest ∨ s.events = .access (.regWrite 0x3#4 v) :: rest)
  | readsCauses (rest : List Event) (b : Byte) (run : t = answer b (istatusRead (begun rest s)))
      (event : s.events = .access (.regRead 0x5#4) :: rest)
  | signals (u : State) (left : Left s u) (b : Byte) (run : t = { seqStep .signal u with readData := b })
  | expires (rest : List Event) (run : t = seqStep .timeout (expired rest s))
  | seesReset (u : State) (left : Left s u) (run : t = busReset u)

theorem left_begun (rest : List Event) (s : State) : Left s (begun rest s) :=
  ⟨lawful_of_guarded rfl, rfl, rfl, rfl, rfl, id⟩

theorem left_answer (b : Byte) (s : State) : Left s (answer b s) :=
  ⟨lawful_answer.mpr (Lawful.refl s), by simp, by simp, by simp, by simp, by simp⟩

theorem left_answerDraw (s : State) : Left s (answerDraw s) :=
  have drawn : Left s { s with draws := s.draws + 1 } := ⟨lawful_of_guarded rfl, rfl, rfl, rfl, rfl, id⟩
  drawn.trans (left_answer _ _)

theorem left_fifoPop (s : State) : Left s (fifoPop s) :=
  ⟨lawful_fifoPop (Lawful.refl s), rfl, rfl, rfl, rfl, id⟩

theorem left_fifoPush (b : Byte) (s : State) : Left s (fifoPush b s) :=
  ⟨lawful_fifoPush (Lawful.refl s), rfl, rfl, rfl, rfl, id⟩

/-- A refused access leaves the sequencer in its place (R110, R111). -/
theorem left_raise (k : Fault) (s : State) : Left s (raise k s) :=
  ⟨lawful_raise.mpr (Lawful.refl s), rfl, rfl, rfl, rfl, nofun⟩

/-- An event leaves the sequencer in its place where its effect on any state does. -/
theorem left_event {f : State → State} {rest : List Event} (h : event f { s with events := rest } = .next t)
    (hf : ∀ u, Left u (f u)) : Left s t := by
  obtain ⟨-, rfl⟩ := event_next h
  exact (left_begun rest s).trans (hf _)

/-- A register read but that of the interrupt status leaves the sequencer in its place (R470 to R493). -/
theorem left_read {off : Offset} {i : Instr} {rest : List Event} (hd : decodeRead off = .ok i) (ho : off ≠ 0x5#4)
    (h : exec i { s with events := rest } = .next t) : Left s t := by
  unfold decodeRead at hd
  split at hd <;> cases hd <;>
    simp only [exec, execRdTclo, execRdTchi, execRdFifo, execRdCmd, execRdStat, execRdSeq, execRdFflags, execRdConfig,
      execRdConfig2, execRdConfig3] at h
  case h_3 => exact left_event h fun u => (left_fifoPop u).trans (left_answer _ _)
  case h_6 is5 => exact absurd (BitVec.eq_of_toNat_eq is5) ho
  case h_10 | h_11 =>
    refine left_event h fun u => ?_
    split
    · exact left_answer _ u
    · exact left_answerDraw u
  all_goals exact left_event h fun u => left_answer _ u

/-- A register write but those of the FIFO and of a command sets one register (R471 to R494). -/
theorem setsRegister_write {off : Offset} {v : Byte} {i : Instr} {rest : List Event} (hd : decodeWrite off v = .ok i)
    (h2 : off ≠ 0x2#4) (h3 : off ≠ 0x3#4) (h : exec i { s with events := rest } = .next t) : SetsRegister s t := by
  have after {f : State → State} (h : event f { s with events := rest } = .next t)
      (hf : ∀ u, SetsRegister u (f u)) : SetsRegister s t := by
    obtain ⟨-, rfl⟩ := event_next h
    have start := left_begun rest s
    exact ⟨start.lawful.toOrderly.trans (hf _).orderly, start.place.trans (hf _).place⟩
  unfold decodeWrite at hd
  split at hd <;> cases hd <;>
    simp only [exec, execWrTclo, execWrTchi, execWrFifo, execWrDest, execWrSelto, execWrSyncper, execWrSyncoff,
      execWrConfig, execWrCcf, execWrTest, execWrConfig2, execWrConfig3, execWrFalign] at h
  case h_3 is2 => exact absurd (BitVec.eq_of_toNat_eq is2) h2
  case h_4 is3 => exact absurd (BitVec.eq_of_toNat_eq is3) h3
  case h_12 | h_13 | h_14 =>
    refine after h fun u => ?_
    split <;> exact ⟨⟨fun r => { r with }, BitVec.and_self, id, rfl⟩, rfl, rfl, rfl, rfl, id⟩
  all_goals
    exact after h fun u => ⟨⟨fun r => { r with }, BitVec.and_self, id, rfl⟩, rfl, rfl, rfl, rfl, id⟩

theorem happening_dmaRead {rest : List Event} : Happening s (dmaRead (begun rest s)) := by
  have start := left_begun rest s
  unfold dmaRead
  split
  · exact .signals _ (start.trans (left_fifoPop _)) _ (answer_eq _ _)
  · exact .leaves (start.trans (left_raise _ _))

theorem happening_dmaWrite {rest : List Event} (v : Byte) : Happening s (dmaWrite v (begun rest s)) := by
  have counted (u : State) : Left u (decrementTcounter u) :=
    ⟨lawful_decrementTcounter (Lawful.refl u), by simp, by simp, by simp, by simp, by simp⟩
  have start := left_begun rest s
  unfold dmaWrite
  split
  · exact .signals _ ((start.trans (left_fifoPush v _)).trans (counted _)) _ rfl
  · exact .leaves (start.trans (left_raise _ _))

theorem happening_access {a : Access} {rest : List Event} (he : s.events = .access a :: rest)
    (h : runEvent (.access a) { s with events := rest } = .next t) : Happening s t := by
  cases a with
  | cmd v =>
    obtain ⟨-, rfl⟩ := event_next ((step_cmd v s rest).symm.trans h)
    exact .writesCommand rest v rfl (.inl he)
  | regRead off =>
    by_cases is5 : off = 0x5#4
    · subst is5
      obtain ⟨-, rfl⟩ := event_next (f := fun u => answer u.istatus (istatusRead u)) h
      exact .readsCauses rest _ rfl he
    · simp only [runEvent, decode] at h
      split at h
      next hd => exact .leaves (left_read hd is5 h)
      next hd =>
        rw [reject_of_decodeRead hd] at h
        exact .leaves (left_event h left_answerDraw)
  | regWrite off v =>
    by_cases is3 : off = 0x3#4
    · subst is3
      obtain ⟨-, rfl⟩ := event_next (f := commandWrite v) h
      exact .writesCommand rest v rfl (.inr he)
    by_cases is2 : off = 0x2#4
    · subst is2
      exact .leaves (left_event (f := fifoPush v) h (left_fifoPush v))
    · simp only [runEvent, decode] at h
      split at h
      next hd => exact .setsRegister (setsRegister_write hd is2 is3 h) off v rest he is2 is3
      next hd =>
        rw [reject_of_decodeWrite hd] at h
        exact .leaves (left_event h fun u => ⟨Lawful.refl u, rfl, rfl, rfl, rfl, id⟩)
  | dmaRead =>
    obtain ⟨-, rfl⟩ := event_next (f := dmaRead) h
    exact happening_dmaRead
  | dmaWrite v =>
    obtain ⟨-, rfl⟩ := event_next (f := dmaWrite v) h
    exact happening_dmaWrite v

theorem happening_busChange {c : Lines} {b : Byte} {rest : List Event} :
    Happening s (busChange c b (begun rest s)) := by
  have left : Left s { begun rest s with envCtrl := c, envData := b } :=
    ⟨lawful_of_guarded rfl, rfl, rfl, rfl, rfl, id⟩
  unfold busChange
  simp only
  split_ifs
  · exact .leaves left
  · exact .seesReset _ left rfl
  · exact .signals _ left _ rfl

theorem happening_timerExpiry (rest : List Event) : Happening s (timerExpiry (begun rest s)) := by
  unfold timerExpiry
  split
  · exact .expires rest rfl
  · exact .leaves (left_begun rest s)

/-- The inversion of the step. -/
theorem step_happening (h : step s = .next t) : Happening s t := by
  unfold step at h
  split at h
  next =>
    unfold runIdle at h
    split at h <;> cases h
    exact .leaves ⟨Lawful.refl s, rfl, rfl, rfl, rfl, id⟩
  next e rest he =>
    cases e with
    | access a => exact happening_access he h
    | bus c b =>
      obtain ⟨-, rfl⟩ := event_next h
      exact happening_busChange
    | timer =>
      obtain ⟨-, rfl⟩ := event_next h
      exact happening_timerExpiry rest

/-- What a step does to the registers: all but a write of one, RESET and the read of the interrupt status are lawful. -/
inductive Change (s t : State) : Prop
  | lawful (kept : Lawful s t)
  | setsRegister (sets : SetsRegister s t) (off : Offset) (v : Byte) (rest : List Event)
      (event : s.events = .access (.regWrite off v) :: rest) (notFifo : off ≠ 0x2#4) (notCommand : off ≠ 0x3#4)
  | resets (rest : List Event) (v : Byte) (code : v &&& 0x7f#8 = 0x02#8) (run : t = commandWrite v (begun rest s))
      (event : s.events = .access (.cmd v) :: rest ∨ s.events = .access (.regWrite 0x3#4 v) :: rest)
  | readsCauses (rest : List Event) (b : Byte) (run : t = answer b (istatusRead (begun rest s)))
      (event : s.events = .access (.regRead 0x5#4) :: rest)

/-- The inversion of the step, in its effect on the registers. -/
theorem step_change (h : step s = .next t) : Change s t := by
  cases step_happening h with
  | leaves left => exact .lawful left.lawful
  | setsRegister sets off v rest event notFifo notCommand =>
    exact .setsRegister sets off v rest event notFifo notCommand
  | writesCommand rest v run event =>
    by_cases hr : cmdCode v = Cmd.reset.code
    · exact .resets rest v ((masked_eq_iff v Cmd.reset.code).mpr hr) run event
    · exact .lawful (run ▸ (left_begun rest s).lawful.trans (lawful_commandWrite hr))
  | readsCauses rest b run event => exact .readsCauses rest b run event
  | signals u left b run => exact .lawful (run ▸ (lawful_seqStep left.lawful).trans (lawful_of_guarded rfl))
  | expires rest run => exact .lawful (run ▸ lawful_seqStep (lawful_of_guarded rfl))
  | seesReset u left run => exact .lawful (run ▸ lawful_busReset left.lawful)

/-- Every step keeps the registers' half of the invariant. -/
theorem regular_step (r : Regular s) (h : step s = .next t) : Regular t := by
  cases step_change h with
  | lawful kept => exact kept.regular r
  | setsRegister sets => exact sets.orderly.regular r
  | resets rest v _ run => exact run ▸ regular_commandWrite v ((left_begun rest s).lawful.regular r)
  | readsCauses rest b run =>
    rw [run]
    exact (left_answer b _).lawful.regular (regular_istatusRead ((left_begun rest s).lawful.regular r))

/-- Every step keeps the parameters (assumption 2). -/
theorem params_step (h : step s = .next t) : t.params = s.params := by
  cases step_change h with
  | lawful kept => exact kept.params
  | setsRegister sets => exact sets.orderly.params
  | resets rest v _ run => exact run ▸ params_commandWrite v (begun rest s)
  | readsCauses rest b run => exact run ▸ (answer_params b _).trans (params_istatusRead (begun rest s))

section
variable (notReset : ∀ v rest, v &&& 0x7f#8 = 0x02#8 →
  s.events ≠ .access (.cmd v) :: rest ∧ s.events ≠ .access (.regWrite 0x3#4 v) :: rest)
include notReset

/-- Every step but a read of the interrupt status and RESET is orderly. -/
theorem orderly_step (notRead : ∀ rest, s.events ≠ .access (.regRead 0x5#4) :: rest) (h : step s = .next t) :
    Orderly s t := by
  cases step_change h with
  | lawful kept => exact kept.toOrderly
  | setsRegister sets => exact sets.orderly
  | resets rest v code run event => exact absurd event (not_or.mpr (notReset v rest code))
  | readsCauses rest b run event => exact absurd event (notRead rest)

/-- Every step but a register write and RESET keeps the configuration, where no reset byte is queued. -/
theorem configuration_step (noReset : s.cmdCount = 2 → isResetByte s.command1 = false)
    (notWrite : ∀ off v rest, off ≠ 0x2#4 → off ≠ 0x3#4 → s.events ≠ .access (.regWrite off v) :: rest)
    (h : step s = .next t) : configuration t = configuration s := by
  cases step_change h with
  | lawful kept => exact kept.configuration
  | setsRegister sets off v rest event h2 h3 => exact absurd event (notWrite off v rest h2 h3)
  | resets rest v code run event => exact absurd event (not_or.mpr (notReset v rest code))
  | readsCauses rest b run =>
    rw [run]
    exact (left_answer b _).lawful.configuration.trans (configuration_istatusRead (s := begun rest s) noReset)

end

end

/-- Settles O58: every step but the two named is orderly. -/
theorem causesPersist : Obligations.CausesPersist := by
  intro s t h notRead notReset
  have orderly := orderly_step notReset notRead h
  exact ⟨orderly.causes, orderly.grossError⟩

/-- Settles O59: the registers are those of `configuration`, and a sound queue holds no reset byte. -/
theorem configurationSurvives : Obligations.ConfigurationSurvives := by
  intro s t sound h
  refine ⟨params_step h, fun notWrite notReset => ?_⟩
  have same := configuration_step notReset sound.noQueuedReset notWrite h
  simpa [configuration, params_step h] using same

end Sys2Proof.Machine

/-! The whole machine: the other half of the invariant, the places the sequencer can be in, and with it the invariant
itself. -/

namespace Sys2Proof.Machine

section
variable {s t : State}

/-! ### The places a state can be in -/

theorem ready_idle (hc : s.coarse = .idle) (hu : s.sub = none) : Ready s where
  position _ h := nomatch hu.symm.trans h
  arbitrationMode _ h := nomatch hu.symm.trans h
  disconnectedQuiet _ := .inl hc
  timerArmed _ _ h := nomatch hu.symm.trans h

/-- A connected sequencer may wait in any coarse state. -/
theorem ready_coarse (hm : s.mode ≠ .disconnected) (hu : s.sub = none) : Ready s where
  position _ h := nomatch hu.symm.trans h
  arbitrationMode _ h := nomatch hu.symm.trans h
  disconnectedQuiet h := absurd h hm
  timerArmed _ _ h := nomatch hu.symm.trans h

/-- A connected sequencer may move a byte on a coarse state that calls for it. -/
theorem ready_byte {v : Sub} (hm : s.mode ≠ .disconnected) (hu : s.sub = some v) (runs : v.runsOn s.coarse = true)
    (byte : v.isArbitration = false) (timer : s.fault = none → v.waitsForTimer = true → s.timer.isSome = true) :
    Ready s where
  position u h := by
    cases hu.symm.trans h
    exact runs
  arbitrationMode u h ha := by
    cases hu.symm.trans h
    cases byte.symm.trans ha
  disconnectedQuiet h := absurd h hm
  timerArmed live u h waits := by
    cases hu.symm.trans h
    exact timer live waits

/-- A disconnected one may arbitrate for a selection, its timer armed while it is live. -/
theorem ready_arbitration {v : Sub} (hm : s.mode = .disconnected) (hc : s.coarse = .discSelArbitrationInit)
    (hu : s.sub = some v) (arb : v.isArbitration = true) (timer : s.fault = none → s.timer.isSome = true) :
    Ready s where
  position u h := by
    cases hu.symm.trans h
    simp [Sub.runsOn, arb, hc]
  arbitrationMode _ _ _ := hm
  disconnectedQuiet _ := .inr ⟨v, hu, arb⟩
  timerArmed live _ _ _ := timer live

theorem Ready.inPlace (p : Ready s) (h : InPlace s t) : Ready t where
  position := by rw [h.sub, h.coarse]; exact p.position
  arbitrationMode := by rw [h.sub, h.mode]; exact p.arbitrationMode
  disconnectedQuiet := by rw [h.mode, h.coarse, h.sub]; exact p.disconnectedQuiet
  timerArmed live := by rw [h.sub, h.timer]; exact p.timerArmed (h.fault live)

/-- A sub-state that waits for no expiry needs no timer. -/
theorem Placed.ready {v : Sub} (p : Placed s) (hu : s.sub = some v) (unwaited : v.waitsForTimer = false) :
    Ready s where
  toPlaced := p
  timerArmed _ u h waits := by
    cases hu.symm.trans h
    cases unwaited.symm.trans waits

/-- An arbitration runs disconnected, on a selection's first state. -/
theorem Placed.arbitrating {v : Sub} (p : Placed s) (hu : s.sub = some v) (arb : v.isArbitration = true) :
    s.mode = .disconnected ∧ s.coarse = .discSelArbitrationInit := by
  refine ⟨p.arbitrationMode v hu arb, ?_⟩
  simpa [Sub.runsOn, arb] using p.position v hu

/-- A byte is moved connected. -/
theorem Placed.connected {v : Sub} (p : Placed s) (hu : s.sub = some v) (byte : v.isArbitration = false) :
    s.mode ≠ .disconnected := by
  intro hm
  rcases p.disconnectedQuiet hm with idle | ⟨u, h, arb⟩
  · have runs := p.position v hu
    rw [idle] at runs
    revert runs byte
    cases v <;> decide
  · cases hu.symm.trans h
    cases byte.symm.trans arb

/-! ### The handlers -/

/-- A send begins with its timer armed, or raises (R260). -/
theorem ready_sendByte (hm : s.mode ≠ .disconnected) (runs : Sub.sendWaitSettle.runsOn s.coarse = true) :
    Ready (sendByte s).1 := by
  unfold sendByte
  simp only [halt]
  split_ifs <;> refine ready_byte (v := .sendWaitSettle) ?_ ?_ ?_ rfl ?_ <;> simp [hm, runs]

theorem ready_recvByte (hm : s.mode ≠ .disconnected) (runs : Sub.recvWaitReq1.runsOn s.coarse = true) :
    Ready (recvByte s).1 :=
  ready_byte (v := .recvWaitReq1) hm rfl runs rfl nofun

section
variable (hm : s.mode ≠ .disconnected) (hu : s.sub = none) (ctrl : Lines)
include hm hu

theorem ready_discSelAtnWaitReq : Ready (discSelAtnWaitReq ctrl s).1 := by
  unfold discSelAtnWaitReq
  split_ifs
  · exact ready_coarse hm hu
  · exact ready_idle (by simp [halt]) (by simp [halt])
  · exact ready_coarse hm hu
  all_goals exact ready_sendByte hm rfl

theorem ready_discSelWaitReq : Ready (discSelWaitReq ctrl s).1 := by
  unfold discSelWaitReq
  split_ifs
  · exact ready_coarse hm hu
  · exact ready_idle (by simp [halt]) (by simp [halt])
  · exact ready_coarse hm hu
  all_goals exact ready_sendByte hm rfl

theorem ready_initXfr : Ready (initXfr s).1 := by
  unfold initXfr
  split_ifs
  · exact ready_coarse hm hu
  · exact ready_sendByte hm rfl
  · exact ready_sendByte hm rfl
  · exact ready_coarse hm hu
  · exact ready_recvByte hm rfl
  · exact ready_recvByte hm rfl
  · exact ready_idle (by simp [halt]) (by simp [halt])

/-- Of the three waits that end in BS outside their phase, each sends or receives in it. -/
theorem ready_waitReq {next : Micro} (h : Ready next.1) (p q : Prop) [Decidable p] [Decidable q] :
    Ready (if p then halt s else if q then halt (busComplete s) else next).1 := by
  split_ifs
  · exact ready_coarse hm hu
  · exact ready_idle (by simp [halt]) (by simp [halt])
  · exact h

/-- A connected coarse handler waits, goes idle, or begins a byte on a state that calls for it (R232). -/
theorem ready_dispatchCoarse (c : Coarse) : Ready (dispatchCoarse c ctrl s).1 := by
  cases c with
  | discSelAtnWaitReq => exact ready_discSelAtnWaitReq hm hu ctrl
  | discSelWaitReq => exact ready_discSelWaitReq hm hu ctrl
  | initXfr => exact ready_initXfr hm hu
  | initXfrSendPadWaitReq =>
    exact ready_waitReq hm hu (ready_sendByte (s := goCoarse .initXfrSendPad s) hm rfl) _ _
  | initCptRecvWaitReq =>
    exact ready_waitReq hm hu (ready_recvByte (s := goCoarse .initCptRecvByteNack s) hm rfl) _ _
  | initXfrRecvPadWaitReq => exact ready_waitReq hm hu (ready_recvByte (s := goCoarse .initXfrRecvPad s) hm rfl) _ _
  | idle | initXfrSendByte | initXfrRecvByteAck | initXfrRecvByteNack | initCptRecvByteAck | initCptRecvByteNack
  | discSelSendByte =>
    refine ready_coarse ?_ ?_ <;>
      simp [dispatchCoarse, halt, stepAgain, initXfrSendByte, initXfrRecvByteAck, initXfrRecvByteNack,
        initCptRecvByteAck, initCptRecvByteNack, discSelSendByte, hm, hu]
  | discSelArbitrationInit | discSelArbitration | discSelAtnSendByte | initXfrWaitReq | initXfrFunctionComplete
  | initXfrBusComplete | initMsgWaitReq | initXfrSendPad | initXfrRecvPad =>
    simp only [dispatchCoarse, discSelArbitrationInit, discSelArbitration, discSelAtnSendByte, initXfrWaitReq,
      initXfrFunctionComplete, initXfrBusComplete, initMsgWaitReq, initXfrSendPad, initXfrRecvPad, halt, stepAgain]
    split_ifs <;> exact ready_coarse (by simp [hm]) (by simp [hu])

end

/-- A handler that waits for elapsed time leaves the place where its act does (R231). -/
theorem ready_onTimeout {r : Reason} {act : State → Micro} (armed : r = .signal → Ready s)
    (h : Ready (act s).1) : Ready (onTimeout r act s).1 := by
  cases r with
  | timeout => exact h
  | signal => exact armed rfl

/-- Arbitration goes on to its next micro-step with the timer armed (R251 to R256). -/
theorem ready_armed (v : Sub) {n : Nat} (hm : s.mode = .disconnected) (hc : s.coarse = .discSelArbitrationInit)
    (hu : s.sub = some v) (arb : v.isArbitration = true) : Ready (halt (delay n s)).1 :=
  ready_arbitration hm hc hu arb fun _ => rfl

theorem ready_arbDeskew (hm : s.mode = .disconnected) (hc : s.coarse = .discSelArbitrationInit) :
    Ready (arbDeskew s).1 :=
  ready_armed .arbDeskewWait hm hc rfl rfl

/-- A micro-step of arbitration goes on with the timer armed, ends the connection or raises, or is connected. -/
theorem ready_arbitrationStep {v : Sub} {r : Reason} {ctrl : Lines} {data : Byte} (hu : s.sub = some v)
    (arb : v.isArbitration = true) (p : Placed s) (armed : r = .signal → Ready s) :
    Ready (dispatchSub v r ctrl data s).1 := by
  obtain ⟨hm, hc⟩ := p.arbitrating hu arb
  have answered := ready_arbDeskew hm hc
  cases v with
  | arbComplete =>
    refine ready_onTimeout armed ?_
    unfold arbComplete
    split
    · exact ready_armed .arbAssertSel (by simp [hm]) (by simp [hc]) (by simp) rfl
    · exact ready_arbitration (v := .arbComplete) (by simp [halt, hm]) (by simp [halt, hc]) (by simp [halt, hu]) rfl
        (by simp [halt])
  | arbAssertSel =>
    exact ready_onTimeout armed (ready_armed .arbSetDest (by simp [hm]) (by simp [hc]) (by simp) rfl)
  | arbSetDest =>
    exact ready_onTimeout armed (ready_armed .arbReleaseBusy (by simp [hm]) (by simp [hc]) (by simp) rfl)
  | arbReleaseBusy =>
    refine ready_onTimeout armed ?_
    unfold arbReleaseBusy
    split
    · exact answered
    · exact ready_armed .arbTimeoutBusy (by simp [hm]) (by simp [hc]) (by simp) rfl
  | arbTimeoutBusy =>
    cases r with
    | timeout => exact ready_armed .arbTimeoutAbort (by simp [hm]) (by simp [hc]) (by simp) rfl
    | signal =>
      simp only [dispatchSub, arbTimeoutBusy]
      split
      · exact answered
      · exact armed rfl
  | arbTimeoutAbort =>
    refine ready_onTimeout armed ?_
    unfold arbTimeoutAbort
    split
    · exact answered
    · exact ready_idle (by simp [halt]) (by simp [halt])
  | arbDeskewWait => exact ready_onTimeout armed (ready_coarse nofun rfl)
  | sendWaitSettle | sendWaitReq0 | recvWaitReq1 | recvWaitSettle | recvWaitReq0 => cases arb

/-- A micro-step of a byte stays connected on its coarse state (R261 to R266). -/
theorem ready_byteStep {v : Sub} {r : Reason} {ctrl : Lines} {data : Byte} (hu : s.sub = some v)
    (byte : v.isArbitration = false) (p : Placed s) (armed : r = .signal → Ready s) :
    Ready (dispatchSub v r ctrl data s).1 := by
  have hm := p.connected hu byte
  have runs := p.position v hu
  cases v with
  | sendWaitSettle => exact ready_onTimeout armed (ready_byte (v := .sendWaitReq0) hm rfl runs rfl nofun)
  | recvWaitSettle =>
    refine ready_onTimeout armed ?_
    simp only [recvWaitSettle, stepAgain]
    split <;> exact ready_byte (v := .recvWaitReq0) hm rfl runs rfl nofun
  | recvWaitReq1 =>
    simp only [dispatchSub, recvWaitReq1]
    split
    · exact ready_byte (v := .recvWaitSettle) hm rfl runs rfl fun _ _ => rfl
    · exact p.ready hu rfl
  | sendWaitReq0 | recvWaitReq0 =>
    simp only [dispatchSub, sendWaitReq0, recvWaitReq0]
    split
    · exact p.ready hu rfl
    · exact ready_coarse hm rfl
  | arbComplete | arbAssertSel | arbSetDest | arbReleaseBusy | arbTimeoutBusy | arbTimeoutAbort | arbDeskewWait =>
    cases byte

/-- One invocation leaves the sequencer in a place it can be in; for an expiry the timer has just been disarmed. -/
theorem ready_stepOnce {r : Reason} (p : Placed s) (armed : r = .signal → Ready s) : Ready (stepOnce r s).1 := by
  by_cases hc : connected s
  · cases hu : s.sub with
    | some v =>
      rw [stepOnce_sub hc hu]
      cases arb : v.isArbitration with
      | true => exact ready_arbitrationStep hu arb p armed
      | false => exact ready_byteStep hu arb p armed
    | none =>
      rw [stepOnce_coarse hc hu]
      by_cases hm : s.mode = .disconnected
      · have idle : s.coarse = .idle := (p.disconnectedQuiet hm).resolve_right (by simp [hu])
        rw [idle]
        exact ready_idle idle hu
      · exact ready_dispatchCoarse hm hu _ _
  · rw [stepOnce_released hc]
    exact ready_idle (by simp) (by simp)

/-- And so the whole chain: what is tail-called is in such a place, with its timer. -/
theorem ready_seqStep {r : Reason} (p : Placed s) (armed : r = .signal → Ready s) : Ready (seqStep r s) := by
  refine seqStep_induction (P := fun r s t => Placed s → (r = .signal → Ready s) → Ready t)
    (fun r s t h p armed => ?_) (fun r r' s t u h later p armed => ?_) r s p armed
  · simpa [h] using ready_stepOnce p armed
  · have called : Ready t := by simpa [h] using ready_stepOnce p armed
    exact later called.toPlaced fun _ => called

theorem ready_signal (p : Ready s) : Ready (seqStep .signal s) := ready_seqStep p.toPlaced fun _ => p

/-! ### The commands -/

/-- The selections are valid in mode Disconnected only, the initiator commands in mode Initiator only (R153). -/
theorem mode_of_valid_selection {var : Config.Variant} {m : Mode} {k : Cmd}
    (hk : k ∈ [Cmd.select, .selatn, .selatnstop]) (hv : commandValid var m k.code = true) : m = .disconnected := by
  revert k
  cases var <;> cases m <;> decide

theorem mode_of_valid_initiator {var : Config.Variant} {m : Mode} {k : Cmd}
    (hk : k ∈ [Cmd.xfer, .iccs, .msgacc, .pad]) (hv : commandValid var m k.code = true) : m = .initiator := by
  revert k
  cases var <;> cases m <;> decide

theorem ready_softReset (s : State) : Ready (softReset s) := ready_idle (softReset_coarse s) (softReset_sub s)

theorem ready_busReset (s : State) : Ready (busReset s) :=
  ready_idle (busReset_done s).1.coarse (busReset_done s).1.sub

/-- A selection starts its arbitration with the timer armed (R250). -/
theorem ready_beginSelection (hm : s.mode = .disconnected) : Ready (beginSelection s) :=
  ready_arbitration ((beginSelection_mode s).trans hm) (beginSelection_coarse s) (beginSelection_sub s) rfl (by simp)

/-- A valid command starts the sequencer in a place of its mode, or leaves it, or goes idle. -/
theorem ready_commandRule {k : Cmd} {var : Config.Variant} (hv : commandValid var s.mode k.code = true) (p : Ready s) :
    Ready (commandRule k s).1 := by
  have connected (hk : k ∈ [Cmd.xfer, .iccs, .msgacc, .pad]) : s.mode ≠ .disconnected := by
    rw [mode_of_valid_initiator hk hv]
    decide
  cases k with
  | nop | flush | setatn | resetatn | ensel | dissel => exact p.inPlace ⟨rfl, rfl, rfl, rfl, id⟩
  | reset => exact ready_softReset _
  | resetbus =>
    simp only [commandRule, startResetbus, runs]
    split <;> exact ready_idle (softReset_coarse s) (softReset_sub s)
  | select | selatn | selatnstop =>
    exact ready_beginSelection (mode_of_valid_selection (by decide) hv)
  | xfer | msgacc | pad =>
    simp only [commandRule, startXfer, startMsgacc, startPad, runs]
    exact ready_signal (ready_coarse (connected (by decide)) rfl)
  | iccs =>
    simp only [commandRule, startIccs, runs]
    exact ready_signal (ready_byte (v := .recvWaitReq1) (connected (by decide)) rfl rfl rfl nofun)
  | cmd04 | sendmsg | sendstatus | senddata | discseq | termseq | tccs | disconnect | recvmsg | recvcmd | recvdata
  | recvcmdseq | reselect | selatn3 => exact p.inPlace ⟨rfl, rfl, rfl, rfl, nofun⟩

theorem ready_startOnly (p : Ready s) : Ready (startOnly s) := by
  cases hv : commandValid s.params.variant s.mode (cmdCode s.command0) with
  | true =>
    obtain ⟨k, hk, code, -⟩ := (validCodesHaveACommand _ _ _).2 hv
    have reloaded : InPlace s (dmaReload s) := ⟨by simp, by simp, by simp, by simp, by simp⟩
    have valid : commandValid s.params.variant s.mode k.code = true := code ▸ hv
    have started : Ready (commandRule k (dmaReload s)).1 :=
      ready_commandRule (var := s.params.variant) (reloaded.mode.symm ▸ valid) (p.inPlace reloaded)
    rw [startOnly_valid hk valid, settled]
    split
    · exact started.inPlace ⟨rfl, rfl, rfl, rfl, id⟩
    · exact started
  | false =>
    rw [startOnly_invalid hv]
    exact p.inPlace ⟨by simp, by simp, by simp, by simp, by simp⟩

theorem ready_commandWrite (v : Byte) (p : Ready s) : Ready (commandWrite v s) := by
  have queue : InPlace s (commandQueue v s) := by
    unfold commandQueue
    split <;> exact ⟨rfl, rfl, rfl, rfl, id⟩
  have q := p.inPlace queue
  unfold commandWrite
  simp only
  split_ifs
  · exact q.inPlace ⟨rfl, rfl, rfl, rfl, id⟩
  · exact q.inPlace ⟨rfl, rfl, rfl, rfl, id⟩
  · exact ready_startOnly (q.inPlace ⟨rfl, rfl, rfl, rfl, id⟩)

theorem ready_istatusRead (p : Ready s) : Ready (istatusRead s) := by
  have cleared : Ready (istatusClear s) := p.inPlace ⟨rfl, rfl, rfl, rfl, id⟩
  rcases istatusRead_cases s with run | run | ⟨-, run⟩ <;> rw [run]
  · exact cleared
  · exact cleared.inPlace ⟨rfl, rfl, rfl, rfl, id⟩
  · exact ready_commandWrite _ (cleared.inPlace ⟨rfl, rfl, rfl, rfl, id⟩)

/-- Every step leaves the sequencer in a place it can be in. -/
theorem ready_step (p : Ready s) (h : step s = .next t) : Ready t := by
  cases step_happening h with
  | leaves left => exact p.inPlace left.place
  | setsRegister sets => exact p.inPlace sets.place
  | writesCommand rest v run => exact run ▸ ready_commandWrite v (p.inPlace (left_begun rest s).place)
  | readsCauses rest b run =>
    rw [run]
    exact (ready_istatusRead (p.inPlace (left_begun rest s).place)).inPlace (left_answer b _).place
  | signals u left b run =>
    rw [run]
    exact (ready_signal (p.inPlace left.place)).inPlace ⟨rfl, rfl, rfl, rfl, id⟩
  | expires rest run => exact run ▸ ready_seqStep (s := expired rest s) { p with } nofun
  | seesReset u left run => exact run ▸ ready_busReset u

end

/-- Settles O54: each half of the invariant is kept, by what the step does. -/
theorem stepKeepsSound : Obligations.StepKeepsSound := by
  intro s t sound h
  obtain ⟨r, p⟩ := sound_iff.mp sound
  exact sound_iff.mpr ⟨regular_step r h, ready_step p h⟩

end Sys2Proof.Machine
